-- ==== Sys2Proof/Word.lean ====
section
/-! DEFINITION. The word of the MTC: registers, commands and symbols are 32-bit units (20_memory.md R70, R77), and
durations are 16-bit unsigned integers (00_scope.md R11). -/

namespace Sys2Proof

/-- A register, a command word or a symbol word: 32 bits (R24, R89, R95). -/
abbrev Word := BitVec 32

/-- A duration: 16 bits, unsigned (R11). -/
abbrev Duration := BitVec 16

end Sys2Proof
end

