-- ==== Sys2Proof/Syntax.lean ====
section
/-! DEFINITION. The commands of the MTC, one constructor per row of the opcode map (30_encoding.md R101). Operands are
typed at the exact widths of the command formats (R92 to R94). -/

namespace Sys2Proof

/-- A command. -/
inductive Instr where
  /-- NOP (44_control.md R160), format N. -/
  | nop
  /-- QUANT (40_quantizer_packer.md R111), format Q: D8, a damage value. -/
  | quant (d8 : BitVec 8)
  /-- DEQUANT (R112), format C: C4, a damage code. -/
  | dequant (c4 : BitVec 4)
  /-- PACK (R115), format P: PID, TID and DC. -/
  | pack (pid : BitVec 7) (tid : BitVec 2) (dc : BitVec 4)
  /-- UNPACK (R116), format N. -/
  | unpack
  /-- PACKS (R117), format Q: D8, a damage value. -/
  | packs (d8 : BitVec 8)
  /-- ENCODE (41_pulse_encoder.md R124), format N. -/
  | encode
  /-- SEND (R125), format N. -/
  | send
  /-- CLASSIFY (42_classifier_decoder.md R138), format N. -/
  | classify
  /-- DECODE (R139), format N. -/
  | decode
  /-- ARM (43_reception_session.md R151), format N. -/
  | arm
  /-- TICK (R152), format N. -/
  | tick
  /-- POLL (R153), format N. -/
  | poll
  /-- CANCEL (R154), format N. -/
  | cancel
  /-- TEARDOWN (R155), format N. -/
  | teardown
  /-- CLRERR (44_control.md R161), format N. -/
  | clrerr
deriving DecidableEq, Repr

end Sys2Proof
end

