-- ==== Sys2Proof/WellFormed.lean ====
section
/-! DEFINITION. The opcode map as rows of mask and match (30_encoding.md R101), and well-formedness.

The operands of `Instr` have exactly the widths of their fields ("an out-of-range id cannot be expressed", R115), so what
can be ill-formed is a command WORD: it is well-formed when some row matches it (R102, R103). For a command term, `Instr.wf`
checks that its operand bits stay inside the bits its row leaves to operands (R89). -/

namespace Sys2Proof

/-- One row of the opcode map: a word `w` is this command when `w & mask = value` (R102). -/
structure OpcodeRow where
  mnemonic : String
  value : Word
  mask : Word
deriving DecidableEq, Repr

/-- The row of each command (R101). -/
def Instr.row : Instr → OpcodeRow
  | .nop => ⟨"NOP", 0x00000000#32, 0xFFFFFFFF#32⟩
  | .quant _ => ⟨"QUANT", 0x00000001#32, 0xFFFF00FF#32⟩
  | .dequant _ => ⟨"DEQUANT", 0x00000002#32, 0xFFFFF0FF#32⟩
  | .pack _ _ _ => ⟨"PACK", 0x00000003#32, 0xFF0C80FF#32⟩
  | .unpack => ⟨"UNPACK", 0x00000004#32, 0xFFFFFFFF#32⟩
  | .packs _ => ⟨"PACKS", 0x00000005#32, 0xFFFF00FF#32⟩
  | .encode => ⟨"ENCODE", 0x00000006#32, 0xFFFFFFFF#32⟩
  | .send => ⟨"SEND", 0x00000007#32, 0xFFFFFFFF#32⟩
  | .classify => ⟨"CLASSIFY", 0x00000008#32, 0xFFFFFFFF#32⟩
  | .decode => ⟨"DECODE", 0x00000009#32, 0xFFFFFFFF#32⟩
  | .arm => ⟨"ARM", 0x0000000A#32, 0xFFFFFFFF#32⟩
  | .tick => ⟨"TICK", 0x0000000B#32, 0xFFFFFFFF#32⟩
  | .poll => ⟨"POLL", 0x0000000C#32, 0xFFFFFFFF#32⟩
  | .cancel => ⟨"CANCEL", 0x0000000D#32, 0xFFFFFFFF#32⟩
  | .teardown => ⟨"TEARDOWN", 0x0000000E#32, 0xFFFFFFFF#32⟩
  | .clrerr => ⟨"CLRERR", 0x0000000F#32, 0xFFFFFFFF#32⟩

/-- The opcode map, in the table's order (R101). -/
def opcodeTable : List OpcodeRow :=
  [Instr.nop, .quant 0, .dequant 0, .pack 0 0 0, .unpack, .packs 0, .encode, .send,
   .classify, .decode, .arm, .tick, .poll, .cancel, .teardown, .clrerr].map Instr.row

/-- Does the row match the word (R102)? -/
def OpcodeRow.hits (r : OpcodeRow) (w : Word) : Bool := (w &&& r.mask) == r.value

/-- A well-formed command word: some row of the opcode map matches it (R103). -/
def commandWordWf (w : Word) : Bool := opcodeTable.any (·.hits w)

/-- The operand bits of a command, at their places in the command word (R90). -/
def Instr.operandBits : Instr → Word
  | .quant d => d.setWidth 32 <<< 8
  | .dequant c => c.setWidth 32 <<< 8
  | .pack p t c => (p.setWidth 32 <<< 8) ||| (t.setWidth 32 <<< 16) ||| (c.setWidth 32 <<< 20)
  | .packs d => d.setWidth 32 <<< 8
  | .nop | .unpack | .encode | .send | .classify | .decode | .arm | .tick | .poll | .cancel | .teardown | .clrerr => 0

/-- A well-formed command: no operand bit lies where the row's mask fixes one (R89). -/
def Instr.wf (i : Instr) : Bool := (i.operandBits &&& i.row.mask) == 0

end Sys2Proof
end

