-- ==== Sys2Proof/Decode.lean ====
section
/-! DEFINITION. Decoding a command word and encoding a command (30_encoding.md R89 to R94, R101 to R105). -/

namespace Sys2Proof

/-- The two kinds of illegal command word (R103). -/
inductive IllegalKind where
  /-- OP is 0x10 to 0xFF. -/
  | unknownOpcode
  /-- OP is 0x00 to 0x0F, with a 1 in a reserved bit of the format. -/
  | reservedBits
deriving DecidableEq, Repr

/-- What a command word stands for (R102). -/
inductive CommandDecode where
  | command (i : Instr)
  | illegal (kind : IllegalKind)
deriving DecidableEq, Repr

/-- Format N: w[31:8] = 0 (R91). -/
def decodeN (i : Instr) (w : Word) : CommandDecode :=
  if w.extractLsb' 8 24 = 0#24 then .command i else .illegal .reservedBits

/-- Format Q: w[31:16] = 0 and D8 = w[15:8] (R92). -/
def decodeQ (mk : BitVec 8 → Instr) (w : Word) : CommandDecode :=
  if w.extractLsb' 16 16 = 0#16 then .command (mk (w.extractLsb' 8 8)) else .illegal .reservedBits

/-- Format C: w[31:12] = 0 and C4 = w[11:8] (R93). -/
def decodeC (mk : BitVec 4 → Instr) (w : Word) : CommandDecode :=
  if w.extractLsb' 12 20 = 0#20 then .command (mk (w.extractLsb' 8 4)) else .illegal .reservedBits

/-- Format P: bits 31:24, 19:18 and 15 are 0; PID = w[14:8], TID = w[17:16], DC = w[23:20] (R94). -/
def decodeP (mk : BitVec 7 → BitVec 2 → BitVec 4 → Instr) (w : Word) : CommandDecode :=
  if w.extractLsb' 24 8 = 0#8 ∧ w.extractLsb' 18 2 = 0#2 ∧ w.extractLsb' 15 1 = 0#1 then
    .command (mk (w.extractLsb' 8 7) (w.extractLsb' 16 2) (w.extractLsb' 20 4))
  else .illegal .reservedBits

/-- Command decode, total on every word (R102): OP = w[7:0] selects the row and its format. -/
def decode (w : Word) : CommandDecode :=
  match (w.extractLsb' 0 8).toNat with
  | 0x00 => decodeN .nop w
  | 0x01 => decodeQ .quant w
  | 0x02 => decodeC .dequant w
  | 0x03 => decodeP .pack w
  | 0x04 => decodeN .unpack w
  | 0x05 => decodeQ .packs w
  | 0x06 => decodeN .encode w
  | 0x07 => decodeN .send w
  | 0x08 => decodeN .classify w
  | 0x09 => decodeN .decode w
  | 0x0A => decodeN .arm w
  | 0x0B => decodeN .tick w
  | 0x0C => decodeN .poll w
  | 0x0D => decodeN .cancel w
  | 0x0E => decodeN .teardown w
  | 0x0F => decodeN .clrerr w
  | _ => .illegal .unknownOpcode

/-- The command word of a command: its operand fields and OP, every other bit 0 (R89, R90, R101). -/
def encode : Instr → Word
  | .nop => 0#24 ++ 0x00#8
  | .quant d => 0#16 ++ d ++ 0x01#8
  | .dequant c => 0#20 ++ c ++ 0x02#8
  | .pack p t c => 0#8 ++ c ++ 0#2 ++ t ++ 0#1 ++ p ++ 0x03#8
  | .unpack => 0#24 ++ 0x04#8
  | .packs d => 0#16 ++ d ++ 0x05#8
  | .encode => 0#24 ++ 0x06#8
  | .send => 0#24 ++ 0x07#8
  | .classify => 0#24 ++ 0x08#8
  | .decode => 0#24 ++ 0x09#8
  | .arm => 0#24 ++ 0x0A#8
  | .tick => 0#24 ++ 0x0B#8
  | .poll => 0#24 ++ 0x0C#8
  | .cancel => 0#24 ++ 0x0D#8
  | .teardown => 0#24 ++ 0x0E#8
  | .clrerr => 0#24 ++ 0x0F#8

/-- The command word made of the low `nbits` bits of `w`, the bits above them 0. A command is exactly one 32-bit word
(R105), so a number that does not fit one is no command word. -/
def tableWord (nbits w : Nat) : Option Word :=
  if w % 2 ^ nbits < 2 ^ 32 then some (BitVec.ofNat 32 (w % 2 ^ nbits)) else none

/-- The command the decoder reads from a table word; none where it rejects the word (the host's check). -/
def decodeTableWord (nbits w : Nat) : Option Instr :=
  match tableWord nbits w with
  | some word =>
    match decode word with
    | .command i => some i
    | .illegal _ => none
  | none => none

end Sys2Proof
end

