-- ==== Sys2Proof/Config.lean ====
section
/-! DEFINITION. What an instance fixes (00_scope.md R10 to R14) and the values the spec leaves open (93_implementation_defined.md). -/

namespace Sys2Proof

/-- The two pulse buffers (10_state.md R61, R62). -/
inductive Buffer where
  | tx
  | rx
deriving DecidableEq, Repr

namespace Config

/-- BUF_DEPTH of the reference instance (R10). The depth of an instance is a field of the state, INFO.DEPTH (log 4). -/
def referenceDepth : BitVec 8 := 64

/-- The least BUF_DEPTH (R10). -/
def minDepth : Nat := 64

/-- The greatest BUF_DEPTH (R10). -/
def maxDepth : Nat := 192

/-- FRAME_SYMS: one start symbol and 32 bit symbols (R13). -/
def frameSyms : Nat := 33

/-- The data bits a decode needs: the first two bytes (42_classifier_decoder.md R135). -/
def minDataBits : Nat := 16

/-- The data bits a decode takes at most (R134). -/
def maxDataBits : Nat := 32

/-- INFO.DW: the width of a duration (R11, R27). -/
def durationWidth : BitVec 8 := 16

/-- INFO.TW: the width of a time value (R12, R27). -/
def timeWidth : BitVec 8 := 32

/-- INFO.IFVER: the interface version (R4, R27). -/
def interfaceVersion : BitVec 8 := 1

/-- FREE VALUE (R184, U11; log 5): the word that reset draw `draw` leaves at index `i` of a pulse buffer.
"A model must not assume zero." -/
opaque powerUpWord (draw : Nat) (b : Buffer) (i : Nat) : Word

/-- FREE VALUE (log 6): what a buffer word beyond the list that holds the buffer reads as. No reachable state has one. -/
opaque absentWord (i : Nat) : Word

end Config

end Sys2Proof
end

