-- ==== Sys2Proof/Machine/State.lean ====
section
/-! DEFINITION. The architectural state of one MTC (10_state.md), as plain data, and the state after reset (R68, R184). -/

namespace Sys2Proof.Machine

/-- STATUS.STATE, the Reception Session state (R30). -/
inductive Session where
  | idle
  | armed
  | hitPending
  | coolingDown
deriving DecidableEq, Repr

/-- The result codes of STATUS.ERR (60_exceptions.md R166). Codes 11 to 15 are never produced. -/
inductive ErrCode where
  | ok
  | configurationError
  | encodeTruncation
  | noStart
  | malformedSymbol
  | shortFrame
  | sessionBusy
  | noFrame
  | illegalCommand
  | badState
  | txBusy
deriving DecidableEq, Repr

/-- One atomic step of an agent (20_memory.md R78, R83). A host access carries the word index offset[11:2] (R70). -/
inductive Input where
  /-- Host read of the word at index `a` (R73). -/
  | hostRead (a : BitVec 10)
  /-- Host write of `w` to the word at index `a` (R74); at CMD it issues a command (R28). -/
  | hostWrite (a : BitVec 10) (w : Word)
  /-- `@rx_batch`: the receiver delivers a batch of symbol words (43_reception_session.md R144). -/
  | rxBatch (batch : List Word)
  /-- `@tx_done ok` or `@tx_done fail` (41_pulse_encoder.md R126). -/
  | txDone (success : Bool)
  /-- The reset event (70_reset_and_hazards.md R184). -/
  | reset
deriving DecidableEq, Repr

/-- The bus response to a host access (20_memory.md R72). -/
inductive BusResponse where
  | ok
  | busErr
deriving DecidableEq, Repr

/-- The signals a step produces, asserted for that step only (10_state.md R66). -/
structure Outputs where
  /-- RESUME, to the receiver. -/
  resume : Bool
  /-- TX_GO(n), to the transmitter. -/
  txGo : Option (BitVec 8)
  /-- The response to the step's host access, if it was one. -/
  bus : Option BusResponse
  /-- The data a host read returns. -/
  readData : Option Word
deriving DecidableEq, Repr

/-- No output asserted. -/
def Outputs.quiet : Outputs := { resume := false, txGo := none, bus := none, readData := none }

/-- The state of one MTC (R23, R24). The last three fields are the model's own (logs 1, 3 and 5). -/
structure State where
  /-- INFO.DEPTH = BUF_DEPTH, constant (R10, R27; log 4). -/
  depth : BitVec 8
  /-- STATUS.STATE (R30). -/
  session : Session
  /-- STATUS.CACHE_VALID (R31). -/
  cacheValid : Bool
  /-- STATUS.MB_FULL (R32). -/
  mbFull : Bool
  /-- STATUS.LH_VALID (R33). -/
  lhValid : Bool
  /-- STATUS.TX_BUSY (R34). -/
  txBusy : Bool
  /-- STATUS.TX_TRUNC (R35). -/
  txTrunc : Bool
  /-- STATUS.TX_FAIL (R36). -/
  txFail : Bool
  /-- STATUS.RX_TRUNC (R39). -/
  rxTrunc : Bool
  /-- STATUS.RX_DROP, sticky (R40). -/
  rxDrop : Bool
  /-- STATUS.WLOCK, sticky (R41). -/
  wlock : Bool
  /-- STATUS.ERR (R42). -/
  err : ErrCode
  /-- RESULT (R43). -/
  result : Word
  /-- NOW (R44). -/
  now : Word
  /-- SYM (R45). -/
  sym : Word
  /-- FRAME[15:0]; FRAME[31:16] is hard-wired 0 (R46). -/
  frame : BitVec 16
  /-- TX_COUNT[7:0]; [31:8] read 0 (R47). -/
  txCount : BitVec 8
  /-- RX_COUNT[7:0]; [31:8] read 0 (R48). -/
  rxCount : BitVec 8
  /-- RX_FRAME (R49). -/
  rxFrame : Word
  /-- HIT (R50). -/
  hit : Word
  /-- LAST_HIT (R51). -/
  lastHit : Word
  /-- TIM_START: START_ON [15:0], OFF [31:16] (R52). -/
  timStart : Word
  /-- TIM_BITS: ZERO_ON [15:0], ONE_ON [31:16] (R53). -/
  timBits : Word
  /-- WM_START: LO [15:0], HI [31:16] (R54). -/
  wmStart : Word
  /-- WM_ONE (R55). -/
  wmOne : Word
  /-- WM_ZERO (R56). -/
  wmZero : Word
  /-- WM_GAP (R57). -/
  wmGap : Word
  /-- COOLDOWN (R58). -/
  cooldown : Word
  /-- CAP[7:0]; [31:8] read 0 (R59). -/
  cap : BitVec 8
  /-- SELF.PID (R60). -/
  selfPid : BitVec 7
  /-- SELF.TID (R60). -/
  selfTid : BitVec 2
  /-- TX_BUF[0 .. BUF_DEPTH-1] (R61). -/
  txBuf : List Word
  /-- RX_BUF[0 .. BUF_DEPTH-1] (R62). -/
  rxBuf : List Word
  /-- CACHE, hidden (R63). -/
  cache : Word
  /-- MODEL'S OWN: which draw of arbitrary buffer contents the last reset took (log 5). -/
  draws : Nat
  /-- MODEL'S OWN: the agents' steps still to come, the next one first (R83; log 1). -/
  inputs : List Input
  /-- MODEL'S OWN: the outputs of the last step (R66; log 3). -/
  outputs : Outputs
deriving DecidableEq, Repr

/-- The reasons a step could stop with a fault: NONE. The MTC takes no traps (60_exceptions.md R171) and every access has a
response (20_memory.md R72), so nothing raises a fault and the type has no constructor (safe: no behaviour is cut off). -/
inductive Fault where
deriving DecidableEq, Repr

/-- The reasons a step could be refused. -/
inductive Refusal where
  /-- Raised by an arm of `exec` whose instruction has no meaning yet. No arm raises it: all sixteen commands have their
  meaning. Safe: the model would stop where the hardware goes on. -/
  | notModelled (mnemonic : String)
deriving DecidableEq, Repr

/-- The contents reset draw `draw` leaves in a pulse buffer of `n` words: arbitrary (R184; log 5). -/
def resetBuffer (draw : Nat) (b : Buffer) (n : Nat) : List Word :=
  (List.range n).map (Config.powerUpWord draw b)

/-- Every piece of state at its reset value (R68), for an instance with BUF_DEPTH = `depth`. -/
def State.powerUp (depth : BitVec 8) (draw : Nat) : State where
  depth := depth
  session := .idle
  cacheValid := false
  mbFull := false
  lhValid := false
  txBusy := false
  txTrunc := false
  txFail := false
  rxTrunc := false
  rxDrop := false
  wlock := false
  err := .ok
  result := 0
  now := 0
  sym := 0
  frame := 0
  txCount := 0
  rxCount := 0
  rxFrame := 0
  hit := 0
  lastHit := 0
  timStart := 0x02580960#32
  timBits := 0x04B00258#32
  wmStart := 0
  wmOne := 0
  wmZero := 0
  wmGap := 0
  cooldown := 0x000005DC#32
  cap := depth
  selfPid := 0
  selfTid := 0
  txBuf := resetBuffer draw .tx depth.toNat
  rxBuf := resetBuffer draw .rx depth.toNat
  cache := 0
  draws := draw
  inputs := []
  outputs := Outputs.quiet

/-- The reference instance right after reset (R10, R68, R184). -/
def State.reset : State := State.powerUp Config.referenceDepth 0

/-- The form of the MTC's memory: each pulse buffer holds exactly BUF_DEPTH words (R61, R62; log 7). Equal memories are then
equal lists. -/
def Memory.wf (s : State) : Bool := s.txBuf.length == s.depth.toNat && s.rxBuf.length == s.depth.toNat

end Sys2Proof.Machine
end

