-- ==== Sys2Proof/Machine/Operands.lean ====
section
/-! DEFINITION. The operand forms: the fields of the words commands read (30_encoding.md R95 to R99), and what the
configuration registers say to the codec functions. -/

namespace Sys2Proof.Machine

/-- Bits [15:0] of a word: ON of a symbol, LO of a band, START_ON, ZERO_ON (R52 to R57, R95). -/
def lowHalf (w : Word) : Duration := w.extractLsb' 0 16

/-- Bits [31:16] of a word: OFF of a symbol, HI of a band, OFF, ONE_ON (R52 to R57, R95). -/
def highHalf (w : Word) : Duration := w.extractLsb' 16 16

/-- The symbol word {OFF, ON} (R95). -/
def symbolWord (off on : Duration) : Word := off ++ on

/-- The classes of a symbol (R96). -/
inductive SymbolClass where
  | invalid
  | gap
  | zero
  | one
  | start
deriving DecidableEq, Repr

/-- The class codes; 5 to 7 are never produced (R96). -/
def SymbolClass.code : SymbolClass → Word
  | .invalid => 0
  | .gap => 1
  | .zero => 2
  | .one => 3
  | .start => 4

/-- The four timing constants of the encoder (41_pulse_encoder.md R120). -/
structure Timing where
  startOn : Duration
  zeroOn : Duration
  oneOn : Duration
  off : Duration
deriving DecidableEq, Repr

/-- The timing constants as TIM_START and TIM_BITS hold them (10_state.md R52, R53). -/
def State.timing (s : State) : Timing where
  startOn := lowHalf s.timStart
  zeroOn := lowHalf s.timBits
  oneOn := highHalf s.timBits
  off := highHalf s.timStart

/-- The four watermark bands, each a word with LO in [15:0] and HI in [31:16] (R54 to R57). -/
structure Bands where
  start : Word
  one : Word
  zero : Word
  gap : Word
deriving DecidableEq, Repr

/-- The watermark bands as the WM registers hold them (R54 to R57). -/
def State.bands (s : State) : Bands where
  start := s.wmStart
  one := s.wmOne
  zero := s.wmZero
  gap := s.wmGap

/-- Is the duration in the inclusive band [LO, HI] (R54, 42_classifier_decoder.md R128)? -/
def inBand (band : Word) (d : Duration) : Bool := (lowHalf band).ule d && d.ule (highHalf band)

/-- FRAME as a 32-bit word: [31:16] hard-wired 0 (R46). -/
def State.frameWord (s : State) : Word := 0#16 ++ s.frame

/-- SELF as a 32-bit word: PID [6:0], TID [9:8], the rest 0 (R60). -/
def State.selfWord (s : State) : Word := 0#22 ++ s.selfTid ++ 0#1 ++ s.selfPid

/-- INFO: {IFVER, TW, DW, DEPTH} (R27). -/
def State.infoWord (s : State) : Word :=
  Config.interfaceVersion ++ Config.timeWidth ++ Config.durationWidth ++ s.depth

/-- The field rule of CAP and RX_COUNT: a write of `w` stores min(w[7:0], BUF_DEPTH) (R48, R59). -/
def clampToDepth (depth : BitVec 8) (w : Word) : BitVec 8 :=
  if w.extractLsb' 0 8 ≤ depth then w.extractLsb' 0 8 else depth

end Sys2Proof.Machine
end

