-- ==== Sys2Proof/Machine/Codec.lean ====
section
/-! DEFINITION. The pure functions of the codec: quantize, dequantize, pack, unpack (40_quantizer_packer.md), encode
(41_pulse_encoder.md), classify and decode (42_classifier_decoder.md). -/

namespace Sys2Proof.Machine

/-- The upper ends of the sixteen damage bands, by code (R108). -/
def quantizeUppers : List Nat := [1, 3, 4, 6, 9, 14, 16, 19, 24, 29, 34, 39, 49, 74, 99, 100]

/-- quantize(d): the least code whose band reaches d; 0 above 100 (R108, R109). -/
def quantize (d : BitVec 8) : BitVec 4 :=
  if 100 < d.toNat then 0 else BitVec.ofNat 4 (quantizeUppers.findIdx (fun upper => decide (d.toNat ≤ upper)))

/-- The damage values of the sixteen codes; code 0 gives 1 (R110, 90_conflicts.md C1). -/
def dequantizeTable : List Nat := [1, 2, 4, 5, 7, 10, 15, 17, 20, 25, 30, 35, 40, 50, 75, 100]

/-- dequantize(c) (R110). -/
def dequantize (c : BitVec 4) : BitVec 7 := BitVec.ofNat 7 (dequantizeTable.getD c.toNat 0)

/-- pack(p, t, c): byte0 = {0, p}, byte1 = {t, c, 00}, trailing bytes 0 (R113). -/
def packFrame (p : BitVec 7) (t : BitVec 2) (c : BitVec 4) : Word := 0#16 ++ (t ++ c ++ 0#2) ++ (0#1 ++ p)

/-- player_id = F[6:0] (R97, R114). -/
def framePlayer (f : Word) : BitVec 7 := f.extractLsb' 0 7

/-- team_id = F[15:14] (R97, R114). -/
def frameTeam (f : Word) : BitVec 2 := f.extractLsb' 14 2

/-- damage_code = F[13:10] (R97, R114). -/
def frameCode (f : Word) : BitVec 4 := f.extractLsb' 10 4

/-- RESULT of UNPACK: the DF places of PID, TID and DC, with DMG = 0 and V = 0 (R116). -/
def unpackedFields (f : Word) : Word := 0#16 ++ frameCode f ++ 0#2 ++ frameTeam f ++ 0#1 ++ framePlayer f

/-- DF(F), the decoded-frame word of F, with V = 1 (30_encoding.md R98, 42_classifier_decoder.md R137). -/
def decodedFrame (f : Word) : Word :=
  1#1 ++ 0#8 ++ dequantize (frameCode f) ++ frameCode f ++ 0#2 ++ frameTeam f ++ 0#1 ++ framePlayer f

/-- The frame bit that wire bit k carries: most significant bit first, byte 0 first (R99, R132). -/
def wirePosition (k : Nat) : Nat := 8 * (k / 8) + 7 - k % 8

/-- wirebit(F, k) (R99). -/
def wireBit (f : Word) (k : Nat) : Bool := f.getLsbD (wirePosition k)

/-- Symbol j of the full encoding of F: the start symbol, then one symbol for each wire bit (R120 to R122). -/
def encodedSymbol (t : Timing) (f : Word) : Nat → Word
  | 0 => symbolWord t.off t.startOn
  | j + 1 => symbolWord t.off (if wireBit f j then t.oneOn else t.zeroOn)

/-- The number of symbols an encoding emits: min(cap, 33) (R120, R123). -/
def encodedCount (cap : BitVec 8) : Nat := min cap.toNat Config.frameSyms

/-- The first `n` symbols of the encoding of F (R120). -/
def encodedSymbols (t : Timing) (f : Word) (n : Nat) : List Word := (List.range n).map (encodedSymbol t f)

/-- classify(s): the first band, in the order Start, One, Zero, Gap, that contains ON (R128, R129). -/
def classifySymbol (b : Bands) (s : Word) : SymbolClass :=
  if inBand b.start (lowHalf s) then .start
  else if inBand b.one (lowHalf s) then .one
  else if inBand b.zero (lowHalf s) then .zero
  else if inBand b.gap (lowHalf s) then .gap
  else .invalid

/-- What a decode attempt gives: a frame, or the error of the first failing symbol (R132). -/
inductive BatchResult where
  | frame (f : Word)
  | error (e : ErrCode)
deriving DecidableEq, Repr

/-- The data bits of a decode, with k bits collected into f so far: One sets the bit at the wire position, Zero leaves it 0,
any other class is MalformedSymbol; fewer than 16 bits at the end is ShortFrame (R132, R134, R135). -/
def collectBits (b : Bands) : List Word → Nat → Word → BatchResult
  | [], k, f => if k < Config.minDataBits then .error .shortFrame else .frame f
  | s :: rest, k, f =>
    match classifySymbol b s with
    | .one => collectBits b rest (k + 1) (f ||| 1#32 <<< wirePosition k)
    | .zero => collectBits b rest (k + 1) f
    | .start => .error .malformedSymbol
    | .gap => .error .malformedSymbol
    | .invalid => .error .malformedSymbol

/-- decode of a batch: a Start symbol first, then at most 32 data symbols (R132 to R134). -/
def decodeBatch (b : Bands) : List Word → BatchResult
  | [] => .error .noStart
  | first :: rest =>
    if classifySymbol b first = .start then collectBits b (rest.take Config.maxDataBits) 0 0#32 else .error .noStart

end Sys2Proof.Machine
end

