-- ==== Sys2Proof/Machine/Flags.lean ====
section
/-! DEFINITION. The STATUS register: its computed flags, the codes of its fields, and the word a host reads (10_state.md R29 to R42). -/

namespace Sys2Proof.Machine

/-- STATUS.TIMING_OK, computed at every moment: all four timing constants are nonzero (R37). -/
def State.timingOk (s : State) : Bool :=
  s.timing.startOn != 0#16 && s.timing.off != 0#16 && s.timing.zeroOn != 0#16 && s.timing.oneOn != 0#16

/-- A band has LO ≤ HI (R38). -/
def bandOrdered (band : Word) : Bool := (lowHalf band).ule (highHalf band)

/-- Every duration of band `upper` lies above band `lower`: upper.LO > lower.HI (R38). -/
def bandAbove (upper lower : Word) : Bool := (highHalf lower).ult (lowHalf upper)

/-- WM_OK of four bands (R38). -/
def Bands.ok (b : Bands) : Bool :=
  bandOrdered b.start && bandOrdered b.one && bandOrdered b.zero && bandOrdered b.gap &&
    bandAbove b.start b.one && bandAbove b.one b.zero && bandAbove b.zero b.gap

/-- STATUS.WM_OK, computed at every moment (R38). -/
def State.wmOk (s : State) : Bool := s.bands.ok

/-- The two-bit code of STATUS.STATE (R30). -/
def Session.code : Session → BitVec 2
  | .idle => 0
  | .armed => 1
  | .hitPending => 2
  | .coolingDown => 3

/-- The four-bit code of STATUS.ERR (60_exceptions.md R166). -/
def ErrCode.code : ErrCode → BitVec 4
  | .ok => 0
  | .configurationError => 1
  | .encodeTruncation => 2
  | .noStart => 3
  | .malformedSymbol => 4
  | .shortFrame => 5
  | .sessionBusy => 6
  | .noFrame => 7
  | .illegalCommand => 8
  | .badState => 9
  | .txBusy => 10

/-- The STATUS word: the fields at their places, reserved bits 0 (R29). -/
def State.statusWord (s : State) : Word :=
  0#12 ++ s.err.code ++ 0#3 ++ BitVec.ofBool s.wlock ++ BitVec.ofBool s.rxDrop ++ BitVec.ofBool s.rxTrunc ++
    BitVec.ofBool s.wmOk ++ BitVec.ofBool s.timingOk ++ BitVec.ofBool s.txFail ++ BitVec.ofBool s.txTrunc ++
    BitVec.ofBool s.txBusy ++ BitVec.ofBool s.lhValid ++ BitVec.ofBool s.mbFull ++ BitVec.ofBool s.cacheValid ++
    s.session.code

end Sys2Proof.Machine
end

