-- ==== Sys2Proof/Machine/Ops.lean ====
section
/-! DEFINITION. The named operations that the meanings share: ending a command, outputs, pulse buffers. -/

namespace Sys2Proof.Machine

/-- STATUS.ERR <- e (60_exceptions.md R167). -/
def State.setErr (s : State) (e : ErrCode) : State := { s with err := e }

/-- The end of every command: it writes STATUS.ERR exactly once and the machine goes on (10_state.md R42, 44_control.md R163).
`raise E` is `finish s E` on the state the command found: this is the MTC's one way of reporting an error, in place of taking
an exception (60_exceptions.md R167, R171). There is no return from it (R172). -/
def finish (s : State) (e : ErrCode) : Host.Outcome State Fault Refusal := .next (s.setErr e)

/-- emit RESUME (43_reception_session.md R150). -/
def State.emitResume (s : State) : State := { s with outputs := { s.outputs with resume := true } }

/-- emit TX_GO(n) (41_pulse_encoder.md R125). -/
def State.emitTxGo (s : State) (n : BitVec 8) : State := { s with outputs := { s.outputs with txGo := some n } }

/-- The response to a host access (20_memory.md R72). -/
def State.reply (s : State) (r : BusResponse) : State := { s with outputs := { s.outputs with bus := some r } }

/-- The response to a host read, with its data (R73). -/
def State.replyData (s : State) (r : BusResponse) (w : Word) : State :=
  { s with outputs := { s.outputs with bus := some r, readData := some w } }

/-- Word i of a pulse buffer (TXB[i], RXB[i], 00_scope.md R16). Every reachable state holds each word below BUF_DEPTH; a word
beyond the list is a free value (log 6). -/
def readWord (buf : List Word) (i : Nat) : Word := buf.getD i (Config.absentWord i)

/-- Write word i of a pulse buffer (R16); the other words keep their contents. -/
def writeWord (buf : List Word) (i : Nat) (w : Word) : List Word := buf.set i w

/-- Write `ws` to words 0, 1, … of a pulse buffer; the words after them keep their contents (R80, R124). -/
def writePrefix : List Word → List Word → List Word
  | [], buf => buf
  | _ :: _, [] => []
  | w :: ws, _ :: buf => w :: writePrefix ws buf

/-- The words 0 .. RX_COUNT-1 of RX_BUF, which DECODE and the drain read (10_state.md R62). -/
def State.receivedSymbols (s : State) : List Word := (List.range s.rxCount.toNat).map (readWord s.rxBuf)

/-- decode(RX_COUNT) with the WM registers (42_classifier_decoder.md R132). -/
def State.decodeReceived (s : State) : BatchResult := decodeBatch s.bands s.receivedSymbols

end Sys2Proof.Machine
end

