-- ==== Sys2Proof/Machine/Collaborators.lean ====
section
/-! DEFINITION. The steps of the receiver and of the transmitter, and the reset event. -/

namespace Sys2Proof.Machine

/-- A batch the mailbox does not accept: only RX_DROP changes (43_reception_session.md R145). -/
def dropBatch (s : State) : State := { s with rxDrop := true }

/-- A batch the mailbox accepts: its first min(L, CAP) words, their count, RX_TRUNC and MB_FULL (R144). -/
def acceptBatch (batch : List Word) (s : State) : State :=
  { s with
    rxBuf := writePrefix (batch.take (min batch.length s.cap.toNat)) s.rxBuf
    rxCount := BitVec.ofNat 8 (min batch.length s.cap.toNat)
    rxTrunc := decide (min batch.length s.cap.toNat < batch.length)
    mbFull := true }

/-- `@rx_batch` (R144, R145). -/
def rxBatch (batch : List Word) (s : State) : State :=
  if s.session = .idle ∨ s.mbFull = true then dropBatch s else acceptBatch batch s

/-- `@tx_done`: ignored while no transmission is in progress (41_pulse_encoder.md R126). -/
def txDone (success : Bool) (s : State) : State :=
  if s.txBusy then { s with txBusy := false, txFail := !success } else s

/-- The reset event: every piece of state at its reset value, the buffers a fresh draw (70_reset_and_hazards.md R184). BUF_DEPTH
is no state (R23), and the agents' later steps are not the MTC's to discard (log 11). -/
def resetEvent (s : State) : State :=
  { State.powerUp s.depth (s.draws + 1) with inputs := s.inputs, outputs := s.outputs }

end Sys2Proof.Machine
end

