-- ==== Sys2Proof/Machine/ClassifierDecoder.lean ====
section
/-! DEFINITION. The Symbol Classifier and Frame Decoder commands (42_classifier_decoder.md). -/

namespace Sys2Proof.Machine

/-- CLASSIFY (R138). -/
def execClassify (s : State) : Host.Outcome State Fault Refusal :=
  if !s.wmOk then finish s .configurationError
  else finish { s with result := (classifySymbol s.bands s.sym).code } .ok

/-- DECODE: decodes RX_BUF without touching the session (R139). -/
def execDecode (s : State) : Host.Outcome State Fault Refusal :=
  if !s.wmOk then finish s .configurationError
  else
    match s.decodeReceived with
    | .frame f => finish { s with rxFrame := f, result := decodedFrame f } .ok
    | .error e => finish { s with rxFrame := 0, result := 0 } e

end Sys2Proof.Machine
end

