-- ==== Sys2Proof/Machine/Control.lean ====
section
/-! DEFINITION. The control commands and illegal command words (44_control.md). -/

namespace Sys2Proof.Machine

/-- NOP (R160). -/
def execNop (s : State) : Host.Outcome State Fault Refusal := finish s .ok

/-- CLRERR (R161). -/
def execClrerr (s : State) : Host.Outcome State Fault Refusal := finish { s with rxDrop := false, wlock := false } .ok

/-- An illegal command word changes nothing but the result code (R162). -/
def illegalCommand (s : State) : Host.Outcome State Fault Refusal := finish s .illegalCommand

end Sys2Proof.Machine
end

