-- ==== Sys2Proof/Machine/PulseEncoder.lean ====
section
/-! DEFINITION. The Pulse Encoder commands (41_pulse_encoder.md). -/

namespace Sys2Proof.Machine

/-- TX_BUF, TX_COUNT and TX_TRUNC after an encoding of FRAME that CAP limits (R124). -/
def State.encodeFrame (s : State) : State :=
  { s with
    txBuf := writePrefix (encodedSymbols s.timing s.frameWord (encodedCount s.cap)) s.txBuf
    txCount := BitVec.ofNat 8 (encodedCount s.cap)
    txTrunc := decide (encodedCount s.cap < Config.frameSyms) }

/-- ENCODE (R124). -/
def execEncode (s : State) : Host.Outcome State Fault Refusal :=
  if s.txBusy then finish s .txBusy
  else if !s.timingOk then finish s .configurationError
  else finish s.encodeFrame (if s.encodeFrame.txTrunc then .encodeTruncation else .ok)

/-- SEND (R125). -/
def execSend (s : State) : Host.Outcome State Fault Refusal :=
  if s.txCount = 0#8 then finish s .badState
  else if s.txBusy then finish s .txBusy
  else if s.txTrunc then finish s .encodeTruncation
  else finish ({ s with txBusy := true, txFail := false }.emitTxGo s.txCount) .ok

end Sys2Proof.Machine
end

