-- ==== Sys2Proof/Machine/QuantizerPacker.lean ====
section
/-! DEFINITION. The Damage Quantizer and Frame Packer commands (40_quantizer_packer.md). -/

namespace Sys2Proof.Machine

/-- RESULT <- w. -/
def State.setResult (s : State) (w : Word) : State := { s with result := w }

/-- FRAME[15:0] <- f[15:0] ; RESULT <- f: what PACK and PACKS do with the frame they build (R115, R117). -/
def State.setFrame (s : State) (f : Word) : State := { s with frame := lowHalf f, result := f }

/-- QUANT (R111). -/
def execQuant (d8 : BitVec 8) (s : State) : Host.Outcome State Fault Refusal :=
  finish (s.setResult ((quantize d8).setWidth 32)) .ok

/-- DEQUANT (R112). -/
def execDequant (c4 : BitVec 4) (s : State) : Host.Outcome State Fault Refusal :=
  finish (s.setResult ((dequantize c4).setWidth 32)) .ok

/-- PACK (R115). -/
def execPack (pid : BitVec 7) (tid : BitVec 2) (dc : BitVec 4) (s : State) : Host.Outcome State Fault Refusal :=
  finish (s.setFrame (packFrame pid tid dc)) .ok

/-- UNPACK (R116). -/
def execUnpack (s : State) : Host.Outcome State Fault Refusal :=
  finish (s.setResult (unpackedFields s.frameWord)) .ok

/-- PACKS: the device's own ids and the quantized damage (R117). -/
def execPacks (d8 : BitVec 8) (s : State) : Host.Outcome State Fault Refusal :=
  finish (s.setFrame (packFrame s.selfPid s.selfTid (quantize d8))) .ok

end Sys2Proof.Machine
end

