-- ==== Sys2Proof/Machine/ReceptionSession.lean ====
section
/-! DEFINITION. The Reception Session: expire, drain, deliver and the session commands (43_reception_session.md). -/

namespace Sys2Proof.Machine

/-- Is the cooldown over at time `now`: (now - LAST_HIT) mod 2^32 ≥ COOLDOWN (R146)? -/
def State.cooldownOver (s : State) (now : Word) : Bool := s.cooldown.ule (now - s.lastHit)

/-- Leave CoolingDown: to HitPending when a hit is cached, else to Armed, with RESUME (R146, R154). -/
def State.leaveCooldown (s : State) : State :=
  { s with session := if s.cacheValid then .hitPending else .armed }.emitResume

/-- expire(now): the end of the cooldown, detected lazily (R146). -/
def expire (now : Word) (s : State) : State :=
  if s.session = .coolingDown ∧ s.cooldownOver now = true then s.leaveCooldown else s

/-- A batch that decoded: RX_FRAME, and the cache if it is empty, which takes Armed to HitPending (R147, R148). -/
def cacheHit (f : Word) (s : State) : State :=
  if s.cacheValid then { s with rxFrame := f }
  else
    { s with
      rxFrame := f
      cache := decodedFrame f
      cacheValid := true
      session := if s.session = .armed then .hitPending else s.session }

/-- A drain that ends with STATE = Armed asserts RESUME (R147, R150). -/
def resumeIfArmed (s : State) : State := if s.session = .armed then s.emitResume else s

/-- drain(): takes the batch out of the mailbox and decodes it once; the decode error, or none (R147). -/
def drain (s : State) : State × Option ErrCode :=
  if s.mbFull then
    match s.decodeReceived with
    | .frame f => (resumeIfArmed (cacheHit f { s with mbFull := false }), none)
    | .error e => (resumeIfArmed { s with mbFull := false, rxFrame := 0 }, some e)
  else (s, none)

/-- deliver(now): hands the cached hit to the host in HitPending; true when it delivered (R149). -/
def deliver (now : Word) (s : State) : State × Bool :=
  if s.session = .hitPending then
    ({ s with hit := s.cache, cacheValid := false, lastHit := now, lhValid := true, session := .coolingDown }, true)
  else ({ s with hit := 0 }, false)

/-- ARM (R151). -/
def execArm (s : State) : Host.Outcome State Fault Refusal :=
  if s.session ≠ .idle then finish s .badState
  else if !s.timingOk || !s.wmOk then finish s .configurationError
  else finish { s with session := .armed }.emitResume .ok

/-- The state and decode error after expire(NOW) and drain(), with which TICK and POLL begin (R152, R153). -/
def advance (s : State) : State × Option ErrCode := drain (expire s.now s)

/-- TICK (R152). -/
def execTick (s : State) : Host.Outcome State Fault Refusal :=
  if s.session = .idle then finish s .badState
  else finish (advance s).1 ((advance s).2.getD .ok)

/-- STATUS.ERR of a POLL that ends in state s: delivered, else the drain's error, else SessionBusy or NoFrame (R153). -/
def pollCode (s : State) (delivered : Bool) (e : Option ErrCode) : ErrCode :=
  if delivered then .ok
  else
    match e with
    | some code => code
    | none => if s.session = .coolingDown then .sessionBusy else .noFrame

/-- POLL (R153). -/
def execPoll (s : State) : Host.Outcome State Fault Refusal :=
  if s.session = .idle then finish s .badState
  else
    let drained := advance s
    let delivered := deliver s.now drained.1
    finish delivered.1 (pollCode delivered.1 delivered.2 drained.2)

/-- CANCEL (R154). -/
def execCancel (s : State) : Host.Outcome State Fault Refusal :=
  if s.session ≠ .coolingDown then finish s .badState
  else finish s.leaveCooldown .ok

/-- TEARDOWN (R155). -/
def execTeardown (s : State) : Host.Outcome State Fault Refusal :=
  finish { s with session := .idle, mbFull := false, cacheValid := false, cache := 0, lhValid := false, lastHit := 0 } .ok

end Sys2Proof.Machine
end

