-- ==== Sys2Proof/Machine/Dispatch.lean ====
section
/-! DEFINITION. The meaning of each command (30_encoding.md R102: "perform row.rule with the operand fields of row.format"). -/

namespace Sys2Proof.Machine

def exec (i : Instr) (s : State) : Host.Outcome State Fault Refusal :=
  match i with
  | .nop => Sys2Proof.Machine.execNop s
  | .quant d8 => Sys2Proof.Machine.execQuant d8 s
  | .dequant c4 => Sys2Proof.Machine.execDequant c4 s
  | .pack pid tid dc => Sys2Proof.Machine.execPack pid tid dc s
  | .unpack => Sys2Proof.Machine.execUnpack s
  | .packs d8 => Sys2Proof.Machine.execPacks d8 s
  | .encode => Sys2Proof.Machine.execEncode s
  | .send => Sys2Proof.Machine.execSend s
  | .classify => Sys2Proof.Machine.execClassify s
  | .decode => Sys2Proof.Machine.execDecode s
  | .arm => Sys2Proof.Machine.execArm s
  | .tick => Sys2Proof.Machine.execTick s
  | .poll => Sys2Proof.Machine.execPoll s
  | .cancel => Sys2Proof.Machine.execCancel s
  | .teardown => Sys2Proof.Machine.execTeardown s
  | .clrerr => Sys2Proof.Machine.execClrerr s

end Sys2Proof.Machine
end

