-- ==== Sys2Proof/Machine/HostPort.lean ====
section
/-! DEFINITION. The host register space: its map, host reads and host writes (20_memory.md R70 to R74, 10_state.md R24, R25). -/

namespace Sys2Proof.Machine

/-- The twenty-one registers of the register map (R24). -/
inductive Reg where
  | info | cmd | status | result | now | sym | frame | txCount | rxCount | rxFrame | hit | lastHit
  | timStart | timBits | wmStart | wmOne | wmZero | wmGap | cooldown | cap | self
deriving DecidableEq, Repr

/-- What a word index selects (R71). -/
inductive Target where
  | reg (r : Reg)
  | txWord (i : Nat)
  | rxWord (i : Nat)
  | unmapped
deriving DecidableEq, Repr

/-- The registers in the order of their offsets, the first at 0x000, four bytes each (R24). -/
def registerMap : List Reg :=
  [.info, .cmd, .status, .result, .now, .sym, .frame, .txCount, .rxCount, .rxFrame, .hit, .lastHit,
   .timStart, .timBits, .wmStart, .wmOne, .wmZero, .wmGap, .cooldown, .cap, .self]

/-- The word index of TX_BUF[0]: offset 0x400 (R71). -/
def txBase : Nat := 0x400 / 4

/-- The word index of RX_BUF[0]: offset 0x800 (R71). -/
def rxBase : Nat := 0x800 / 4

/-- The word index of CMD: offset 0x004 (R28). -/
def cmdIndex : BitVec 10 := 1

/-- The address map, for an instance of the given BUF_DEPTH (R71). -/
def target (depth : BitVec 8) (a : BitVec 10) : Target :=
  match registerMap[a.toNat]? with
  | some r => .reg r
  | none =>
    if txBase ≤ a.toNat ∧ a.toNat < txBase + depth.toNat then .txWord (a.toNat - txBase)
    else if rxBase ≤ a.toNat ∧ a.toNat < rxBase + depth.toNat then .rxWord (a.toNat - rxBase)
    else .unmapped

/-- The access classes (R25). -/
inductive Access where
  | ro
  | wo
  | rw
  | rwl
deriving DecidableEq, Repr

/-- The access class of each register; FRAME[31:16] is RO by its field rule (R24). -/
def Reg.access : Reg → Access
  | .info => .ro
  | .cmd => .wo
  | .status => .ro
  | .result => .ro
  | .now => .rw
  | .sym => .rw
  | .frame => .rw
  | .txCount => .ro
  | .rxCount => .rwl
  | .rxFrame => .ro
  | .hit => .ro
  | .lastHit => .ro
  | .timStart => .rwl
  | .timBits => .rwl
  | .wmStart => .rwl
  | .wmOne => .rwl
  | .wmZero => .rwl
  | .wmGap => .rwl
  | .cooldown => .rwl
  | .cap => .rwl
  | .self => .rwl

/-- The current value of a register as a host reads it; CMD reads 0 (R73). -/
def readReg (s : State) : Reg → Word
  | .info => s.infoWord
  | .cmd => 0
  | .status => s.statusWord
  | .result => s.result
  | .now => s.now
  | .sym => s.sym
  | .frame => s.frameWord
  | .txCount => s.txCount.setWidth 32
  | .rxCount => s.rxCount.setWidth 32
  | .rxFrame => s.rxFrame
  | .hit => s.hit
  | .lastHit => s.lastHit
  | .timStart => s.timStart
  | .timBits => s.timBits
  | .wmStart => s.wmStart
  | .wmOne => s.wmOne
  | .wmZero => s.wmZero
  | .wmGap => s.wmGap
  | .cooldown => s.cooldown
  | .cap => s.cap.setWidth 32
  | .self => s.selfWord

/-- Store w into a writable register, by its field rule (R74). The other registers store nothing. -/
def storeReg (s : State) (w : Word) : Reg → State
  | .now => { s with now := w }
  | .sym => { s with sym := w }
  | .frame => { s with frame := lowHalf w }
  | .rxCount => { s with rxCount := clampToDepth s.depth w }
  | .timStart => { s with timStart := w }
  | .timBits => { s with timBits := w }
  | .wmStart => { s with wmStart := w }
  | .wmOne => { s with wmOne := w }
  | .wmZero => { s with wmZero := w }
  | .wmGap => { s with wmGap := w }
  | .cooldown => { s with cooldown := w }
  | .cap => { s with cap := clampToDepth s.depth w }
  | .self => { s with selfPid := w.extractLsb' 0 7, selfTid := w.extractLsb' 8 2 }
  | .info => s
  | .cmd => s
  | .status => s
  | .result => s
  | .txCount => s
  | .rxFrame => s
  | .hit => s
  | .lastHit => s

/-- The lock of RWL registers and RX_BUF: outside Idle the write is ignored and sets WLOCK (R25, R41). -/
def unlessLocked (s stored : State) : State :=
  if s.session = .idle then stored else { s with wlock := true }

/-- What a host write of w does to the selected target, CMD apart, whose action is the command (R25, R74). -/
def storeTarget (s : State) (w : Word) : Target → State
  | .unmapped => s
  | .txWord _ => s
  | .rxWord i => unlessLocked s { s with rxBuf := writeWord s.rxBuf i w }
  | .reg r =>
    match r.access with
    | .ro => s
    | .wo => s
    | .rw => storeReg s w r
    | .rwl => unlessLocked s (storeReg s w r)

/-- The word a host reads at a target; an unmapped offset gives 0 (R73). -/
def readTarget (s : State) : Target → Word
  | .reg r => readReg s r
  | .txWord i => readWord s.txBuf i
  | .rxWord i => readWord s.rxBuf i
  | .unmapped => 0

/-- The bus response at a target: BusErr exactly where nothing is mapped (R72). -/
def Target.response : Target → BusResponse
  | .unmapped => .busErr
  | .reg _ => .ok
  | .txWord _ => .ok
  | .rxWord _ => .ok

/-- Host read, MemRead: the response and the data, and no side effect (R73, R79). -/
def hostRead (a : BitVec 10) (s : State) : State :=
  s.replyData (target s.depth a).response (readTarget s (target s.depth a))

/-- Host write, MemWrite, at every index but CMD (R74). -/
def hostStore (a : BitVec 10) (w : Word) (s : State) : State :=
  (storeTarget s w (target s.depth a)).reply (target s.depth a).response

end Sys2Proof.Machine
end

