-- ==== Sys2Proof/Machine/Events.lean ====
section
/-! DEFINITION. One atomic step of one agent (20_memory.md R78, R83): host access, receiver batch, transmitter done, reset. -/

namespace Sys2Proof.Machine

/-- Command decode and execution of the word w (30_encoding.md R102). -/
def runCommand (w : Word) (s : State) : Host.Outcome State Fault Refusal :=
  match decode w with
  | .command i => exec i s
  | .illegal _ => illegalCommand s

/-- Host write, MemWrite: at CMD the word is executed and the response is OK (R74). -/
def hostWrite (a : BitVec 10) (w : Word) (s : State) : Host.Outcome State Fault Refusal :=
  if a = cmdIndex then runCommand w (s.reply .ok) else .next (hostStore a w s)

/-- The step of one input. -/
def runInput (e : Input) (s : State) : Host.Outcome State Fault Refusal :=
  match e with
  | .hostRead a => .next (hostRead a s)
  | .hostWrite a w => hostWrite a w s
  | .rxBatch batch => .next (rxBatch batch s)
  | .txDone success => .next (txDone success s)
  | .reset => .next (resetEvent s)

/-- A step begins: the inputs still to come are `rest`, and no output is asserted yet (10_state.md R66). -/
def State.beginStep (s : State) (rest : List Input) : State := { s with inputs := rest, outputs := Outputs.quiet }

/-- The next agent's step; with no step to come the MTC stays as it is (43_reception_session.md R143; log 2). -/
def nextStep (s : State) : Host.Outcome State Fault Refusal :=
  match s.inputs with
  | [] => .next (s.beginStep [])
  | e :: rest => runInput e (s.beginStep rest)

/-- The host's write of `w` to CMD as the very next step (10_state.md R28). -/
def State.issue (s : State) (w : Word) : State := { s with inputs := .hostWrite cmdIndex w :: s.inputs }

end Sys2Proof.Machine
end

