-- ==== Sys2Proof/Machine/Step.lean ====
section
/-! DEFINITION. The step of the machine, and where a command word stands for the next step to run it (log 1). -/

namespace Sys2Proof.Machine

/-- One atomic step of the MTC (20_memory.md R78). -/
def step (s : State) : Host.Outcome State Fault Refusal := nextStep s

/-- The state in which the host's next step writes the command word `w`, of `nbits` bits, to CMD (10_state.md R28; log 1). -/
def State.withFetchWord (s : State) (nbits w : Nat) : State := s.issue (BitVec.ofNat 32 (w % 2 ^ nbits))

end Sys2Proof.Machine
end

