-- ==== Sys2Proof/Safety.lean ====
section
/-! DEFINITION. The terms in which claims are stated: the invariant of reachable states (10_state.md R67), what the next step
is, and runs. -/

namespace Sys2Proof.Machine

/-- The invariant of reachable states. Items 1 to 8 of R67 come first; the rest is what they need to be kept by every step, and
the form of the memory. -/
structure State.Inv (s : State) : Prop where
  /-- R67 item 1. -/
  idleIsEmpty : s.session = .idle → s.mbFull = false ∧ s.cacheValid = false ∧ s.lhValid = false
  /-- R67 item 2. -/
  pendingIsCached : s.session = .hitPending → s.cacheValid = true
  /-- R67 item 3. -/
  armedIsUncached : s.session = .armed → s.cacheValid = false
  /-- R67 item 4. -/
  coolingHasTime : s.session = .coolingDown → s.lhValid = true
  /-- R67 item 5. -/
  sessionIsConfigured : s.session ≠ .idle → s.timingOk = true ∧ s.wmOk = true
  /-- R67 item 6, the mailbox. -/
  mailboxWithinCap : s.mbFull = true → s.rxCount ≤ s.cap
  /-- R67 item 6, CAP. -/
  capWithinDepth : s.cap ≤ s.depth
  /-- R67 item 6, RX_COUNT. -/
  rxCountWithinDepth : s.rxCount ≤ s.depth
  /-- R67 item 7. -/
  txCountBounded : s.txCount ≤ 33 ∧ s.txCount ≤ s.depth
  /-- R67 item 8. -/
  busyIsComplete : s.txBusy = true → s.txTrunc = false ∧ s.txCount = 33
  /-- An encoding that did not truncate has 33 symbols (41_pulse_encoder.md R124); SEND relies on it. -/
  untruncatedIsComplete : s.txTrunc = false → s.txCount = 0 ∨ s.txCount = 33
  /-- TEARDOWN and reset leave CACHE and LAST_HIT 0, and nothing writes them in Idle (43_reception_session.md R155). -/
  idleIsZero : s.session = .idle → s.cache = 0 ∧ s.lastHit = 0
  /-- A cached hit is a decoded-frame word with V = 1 (R63). -/
  cacheIsHit : s.cacheValid = true → ∃ f, s.cache = decodedFrame f
  /-- 64 ≤ BUF_DEPTH ≤ 192 (00_scope.md R10). -/
  depthLegal : Config.minDepth ≤ s.depth.toNat ∧ s.depth.toNat ≤ Config.maxDepth
  /-- Each pulse buffer holds BUF_DEPTH words (R61, R62). -/
  memoryWf : Memory.wf s = true

/-- The input of the next step, if there is one. -/
def State.nextInput (s : State) : Option Input := s.inputs.head?

/-- The command the next step executes, if it is a write of a legal command word to CMD (R28). -/
def State.nextCommand (s : State) : Option Instr :=
  match s.inputs with
  | .hostWrite a w :: _ =>
    if a = cmdIndex then
      match decode w with
      | .command i => some i
      | .illegal _ => none
    else none
  | _ => none

/-- The state in which a command given to CMD starts: the rest of the inputs to come, and the response OK (R74). -/
def State.commandStart (s : State) (rest : List Input) : State :=
  { s with inputs := rest, outputs := { Outputs.quiet with bus := some .ok } }

/-- The registers that are the configuration (R23). -/
def State.configuration (s : State) :
    Word × Word × Word × Word × Word × Word × Word × BitVec 8 × BitVec 7 × BitVec 2 :=
  (s.timStart, s.timBits, s.wmStart, s.wmOne, s.wmZero, s.wmGap, s.cooldown, s.cap, s.selfPid, s.selfTid)

/-- The configuration is non-degenerate (42_classifier_decoder.md R131). -/
def State.NonDegenerate (s : State) : Prop :=
  s.timingOk = true ∧ s.wmOk = true ∧ inBand s.wmStart s.timing.startOn = true ∧
    inBand s.wmOne s.timing.oneOn = true ∧ inBand s.wmZero s.timing.zeroOn = true

/-- The duration of a symbol: its mark and its space (30_encoding.md R95). -/
def symbolDuration (w : Word) : Nat := (lowHalf w).toNat + (highHalf w).toNat

/-- A run: steps of the machine, each from a state in which `ok` holds. -/
inductive Run (ok : State → Prop) : State → State → Prop where
  | start (s : State) : Run ok s s
  | snoc {s t u : State} : Run ok s t → ok t → step t = .next u → Run ok s u

/-- The next step is a batch that the mailbox accepts (43_reception_session.md R144). -/
def State.acceptsBatch (s : State) : Bool :=
  match s.inputs with
  | .rxBatch _ :: _ => decide (s.session ≠ .idle) && !s.mbFull
  | _ => false

/-- The step from s to t is a POLL that delivered a hit: its result code is OK (R153). -/
def deliversHit (s t : State) : Bool := decide (s.nextCommand = some .poll) && decide (t.err = .ok)

/-- A run in which `accepted` batches entered the mailbox and `delivered` hits were handed to the host. -/
inductive CountedRun : State → Nat → Nat → State → Prop where
  | start (s : State) : CountedRun s 0 0 s
  | snoc {s t u : State} {accepted delivered : Nat} :
      CountedRun s accepted delivered t → step t = .next u →
      CountedRun s (accepted + t.acceptsBatch.toNat) (delivered + (deliversHit t u).toNat) u

/-- A step inside the cooldown that began at time t0: no CANCEL, no TEARDOWN, no reset, and a TICK or POLL finds NOW less than
COOLDOWN after t0 (R146, R158; the host's clock is monotonic, 60_exceptions.md R180). -/
def State.InsideCooldown (t0 : Word) (s : State) : Prop :=
  s.nextCommand ≠ some .cancel ∧ s.nextCommand ≠ some .teardown ∧ s.nextInput ≠ some .reset ∧
    (s.nextCommand = some .tick ∨ s.nextCommand = some .poll → s.now - t0 < s.cooldown)

end Sys2Proof.Machine
end

