-- ==== Sys2Proof/Certificates/Slice0/Obligations.lean ====
section
/-! DEFINITION. The statements about the MTC. A state that is written `{ s with … }` says the frame whole: every field that is
not named keeps its value, the buffers with every word among them. -/

open Sys2Proof Sys2Proof.Machine

/-! ### Encoding (30_encoding.md) -/

/-- Decoding the word of a command gives the command back, with every operand at every value (R89 to R94, R101). -/
def Obligations.CommandWordRoundTrip : Prop :=
  ∀ i : Instr, decode (encode i) = .command i

/-- A word that decodes to a command is that command's only word: no bit of a command word is left out (R89, R102). -/
def Obligations.DecodedWordReencodes : Prop :=
  ∀ (w : Word) (i : Instr), decode w = .command i → encode i = w

/-- Decode follows the opcode map: the command a word decodes to belongs to a row that matches the word, a word that a row matches
decodes to a command of that row, and at most one row matches a word (R101, R102). -/
def Obligations.DecodeFollowsTheOpcodeMap : Prop :=
  (∀ (w : Word) (i : Instr), decode w = .command i → i.row ∈ opcodeTable ∧ w &&& i.row.mask = i.row.value) ∧
    (∀ (w : Word) (r : OpcodeRow), r ∈ opcodeTable → w &&& r.mask = r.value → ∃ i, decode w = .command i ∧ i.row = r) ∧
    ∀ (w : Word) (r₁ r₂ : OpcodeRow), r₁ ∈ opcodeTable → r₂ ∈ opcodeTable →
      w &&& r₁.mask = r₁.value → w &&& r₂.mask = r₂.value → r₁ = r₂

/-- The operands are the fields of the command word at the places the formats Q, C and P give them (R92 to R94, R111, R112, R115,
R117). -/
def Obligations.OperandsAreTheFieldsOfTheWord : Prop :=
  ∀ w : Word,
    (w &&& 0xFFFF00FF#32 = 0x00000001#32 → decode w = .command (.quant (w.extractLsb' 8 8))) ∧
      (w &&& 0xFFFFF0FF#32 = 0x00000002#32 → decode w = .command (.dequant (w.extractLsb' 8 4))) ∧
      (w &&& 0xFF0C80FF#32 = 0x00000003#32 →
        decode w = .command (.pack (w.extractLsb' 8 7) (w.extractLsb' 16 2) (w.extractLsb' 20 4))) ∧
      (w &&& 0xFFFF00FF#32 = 0x00000005#32 → decode w = .command (.packs (w.extractLsb' 8 8)))

/-- The two kinds of illegal word: OP above 0x0F, or a 1 in a reserved bit (R103). -/
def Obligations.IllegalWordsAreOfTwoKinds : Prop :=
  ∀ w : Word,
    (decode w = .illegal .unknownOpcode ↔ 0x10 ≤ (w.extractLsb' 0 8).toNat) ∧
      (decode w = .illegal .reservedBits ↔
        (w.extractLsb' 0 8).toNat ≤ 0x0F ∧ ∀ r ∈ opcodeTable, w &&& r.mask ≠ r.value)

/-- Words the spec writes out decode to the commands it says they are (R111, R112, R115, R117, R124, R153 and the vectors of
95_test_vectors.md §3.5). -/
def Obligations.SpecExampleWordsDecode : Prop :=
  decode 0x00003201#32 = .command (.quant 50) ∧ decode 0x00000902#32 = .command (.dequant 9) ∧
    decode 0x00920503#32 = .command (.pack 5 2 9) ∧ decode 0x00000105#32 = .command (.packs 1) ∧
    decode 0x00000006#32 = .command .encode ∧ decode 0x0000000C#32 = .command .poll ∧
    decode 0x00000F0C#32 = .illegal .reservedBits ∧ decode 0x000000FF#32 = .illegal .unknownOpcode

/-! ### The step -/

/-- When the next input is the host's write of a word that decodes to a command, the step is exec of that command, on the state
with that input taken, no output asserted and the bus response OK (R28, R74, R102). -/
def Obligations.StepRunsDecodedCommand : Prop :=
  ∀ (s : State) (rest : List Input) (w : Word) (i : Instr),
    s.inputs = .hostWrite 1 w :: rest → decode w = .command i → step s = exec i (s.commandStart rest)

/-- A command word that no row matches changes nothing but STATUS.ERR (R162). -/
def Obligations.UnmatchedWordOnlyReportsIllegalCommand : Prop :=
  ∀ (s : State) (rest : List Input) (w : Word),
    s.inputs = .hostWrite 1 w :: rest → (∀ r ∈ opcodeTable, w &&& r.mask ≠ r.value) →
      step s = .next { s.commandStart rest with err := .illegalCommand }

/-- Every step answers a next state, also the one with no input to come (log 2): none ends in one of the model's faults or refusals,
which stands for the spec's "takes no traps" (R171; log 10). -/
def Obligations.EveryStepAnswersNext : Prop :=
  ∀ s : State, ∃ t, step s = .next t

/-! ### Control (44_control.md) -/

/-- NOP: its one word, and its one effect (R160). -/
def Obligations.NopOnlyReportsOk : Prop :=
  (∀ w : Word, decode w = .command .nop ↔ w = 0x00000000#32) ∧ decode 0x000000F0#32 = .illegal .unknownOpcode ∧
    ∀ s : State, exec .nop s = .next { s with err := .ok }

/-- CLRERR: its one word, and its effect: the sticky flags, and no other (R161). -/
def Obligations.ClrerrClearsTheStickyFlags : Prop :=
  (∀ w : Word, decode w = .command .clrerr ↔ w = 0x0000000F#32) ∧
    ∀ s : State, exec .clrerr s = .next { s with rxDrop := false, wlock := false, err := .ok }

/-- DECODE with invalid bands, and TICK and POLL in Idle, report the error at their head, and nothing else changes (R139, R152, R153,
R163). -/
def Obligations.RefusedCommandsOnlyReportTheError : Prop :=
  ∀ s : State,
    (s.wmOk = false → exec .decode s = .next { s with err := .configurationError }) ∧
    (s.session = .idle → exec .tick s = .next { s with err := .badState } ∧
      exec .poll s = .next { s with err := .badState })

/-! ### Quantizer and packer (40_quantizer_packer.md) -/

/-- The damage bands of R108, each (low, high, code), and the out-of-range band of R109. -/
def Sys2Proof.Machine.damageBands : List (Nat × Nat × Nat) :=
  [(0, 1, 0), (2, 3, 1), (4, 4, 2), (5, 6, 3), (7, 9, 4), (10, 14, 5), (15, 16, 6), (17, 19, 7), (20, 24, 8),
   (25, 29, 9), (30, 34, 10), (35, 39, 11), (40, 49, 12), (50, 74, 13), (75, 99, 14), (100, 100, 15), (101, 255, 0)]

/-- QUANT: its words and operand, and its effect: every damage lies in a band, and QUANT writes the band's code to RESULT and reports
no error; 101 to 255 give code 0 (R108, R109, R111). -/
def Obligations.QuantGivesTheBandCode : Prop :=
  (∀ (w : Word) (d : BitVec 8), decode w = .command (.quant d) ↔
    w &&& 0xFFFF00FF#32 = 0x00000001#32 ∧ d = w.extractLsb' 8 8) ∧
  (∀ d : BitVec 8, ∃ band ∈ damageBands, band.1 ≤ d.toNat ∧ d.toNat ≤ band.2.1) ∧
  ∀ (band : Nat × Nat × Nat) (d : BitVec 8) (s : State), band ∈ damageBands → band.1 ≤ d.toNat → d.toNat ≤ band.2.1 →
    exec (.quant d) s = .next { s with result := BitVec.ofNat 32 band.2.2, err := .ok }

/-- The damage values of R110, by code. -/
def Sys2Proof.Machine.damageOfCode : List (Nat × Nat) :=
  [(0, 1), (1, 2), (2, 4), (3, 5), (4, 7), (5, 10), (6, 15), (7, 17), (8, 20), (9, 25), (10, 30), (11, 35), (12, 40),
   (13, 50), (14, 75), (15, 100)]

/-- DEQUANT: its words and operand, and its effect: the damage of the code to RESULT, code 0 giving 1; every code has its row (R110,
R112). -/
def Obligations.DequantGivesTheTableDamage : Prop :=
  (∀ (w : Word) (c : BitVec 4), decode w = .command (.dequant c) ↔
    w &&& 0xFFFFF0FF#32 = 0x00000002#32 ∧ c = w.extractLsb' 8 4) ∧
  (∀ c : BitVec 4, ∃ row ∈ damageOfCode, row.1 = c.toNat) ∧
  ∀ (row : Nat × Nat) (s : State), row ∈ damageOfCode →
    exec (.dequant (BitVec.ofNat 4 row.1)) s = .next { s with result := BitVec.ofNat 32 row.2, err := .ok }

/-- The four laws of the family: monotone, idempotent on bands, frame round trip, lossy (R118). -/
def Obligations.QuantizerAndPackerLaws : Prop :=
  (∀ d₁ d₂ : BitVec 8, d₁ < d₂ → d₂.toNat ≤ 100 → quantize d₁ ≤ quantize d₂) ∧
    (∀ d : BitVec 8, d.toNat ≤ 100 →
      quantize ((dequantize (quantize d)).setWidth 8) = quantize d) ∧
    (∀ (p : BitVec 7) (t : BitVec 2) (c : BitVec 4) (s : State),
      ∃ u v, exec (.pack p t c) s = .next u ∧ exec .unpack u = .next v ∧
        v.result.extractLsb' 0 7 = p ∧ v.result.extractLsb' 8 2 = t ∧ v.result.extractLsb' 12 4 = c) ∧
    (dequantize (quantize 3) = 2 ∧ dequantize (quantize 0) = 1)

/-- PACK and PACKS: their words and operands, and their effect: byte0 = {0, PID} and byte1 = {TID, DC, 00} in FRAME and RESULT, PACK
from its operands, PACKS from SELF and the quantized damage (R60, R97, R113, R115, R117). -/
def Obligations.PackCommandsBuildTheFrame : Prop :=
  (∀ (w : Word) (p : BitVec 7) (t : BitVec 2) (c : BitVec 4), decode w = .command (.pack p t c) ↔
    w &&& 0xFF0C80FF#32 = 0x00000003#32 ∧ p = w.extractLsb' 8 7 ∧ t = w.extractLsb' 16 2 ∧ c = w.extractLsb' 20 4) ∧
  (∀ (w : Word) (d : BitVec 8), decode w = .command (.packs d) ↔
    w &&& 0xFFFF00FF#32 = 0x00000005#32 ∧ d = w.extractLsb' 8 8) ∧
  ∀ s : State,
    (∀ (p : BitVec 7) (t : BitVec 2) (c : BitVec 4), exec (.pack p t c) s = .next
      { s with frame := t ++ c ++ 0#2 ++ 0#1 ++ p, result := 0#16 ++ t ++ c ++ 0#2 ++ 0#1 ++ p, err := .ok }) ∧
    ∀ d : BitVec 8, exec (.packs d) s = .next
      { s with
        frame := s.selfTid ++ quantize d ++ 0#2 ++ 0#1 ++ s.selfPid
        result := 0#16 ++ s.selfTid ++ quantize d ++ 0#2 ++ 0#1 ++ s.selfPid
        err := .ok }

/-- UNPACK: its one word, and its effect: the three fields of FRAME at their DF places in RESULT; the reserved bits of FRAME do not
reach it (R114, R116). -/
def Obligations.UnpackReturnsTheFields : Prop :=
  (∀ w : Word, decode w = .command .unpack ↔ w = 0x00000004#32) ∧
  ∀ s : State, exec .unpack s = .next
    { s with
      result := 0#16 ++ s.frame.extractLsb' 10 4 ++ 0#2 ++ s.frame.extractLsb' 14 2 ++ 0#1 ++ s.frame.extractLsb' 0 7
      err := .ok }

/-! ### Pulse encoder (41_pulse_encoder.md) -/

/-- ENCODE: its one word, its two refusals, and its effect: the first n = min(CAP, 33) symbols in TX_BUF, {OFF, START_ON} first and then
{OFF, ONE_ON} or {OFF, ZERO_ON} for each wire bit; the words from n up, and all else, keep their values; it reports EncodeTruncation
exactly when n < 33 (R99, R120 to R124). -/
def Obligations.EncodeWritesTheSymbols : Prop :=
  (∀ w : Word, decode w = .command .encode ↔ w = 0x00000006#32) ∧
  ∀ (s : State) (n : Nat),
    (s.txBusy = true → exec .encode s = .next { s with err := .txBusy }) ∧
    (s.txBusy = false → s.timingOk = false → exec .encode s = .next { s with err := .configurationError }) ∧
    (s.txBusy = false → s.timingOk = true → n = min s.cap.toNat 33 → n ≤ s.txBuf.length →
      ∃ t, exec .encode s = .next t ∧
        t = { s with
          txBuf := t.txBuf
          txCount := BitVec.ofNat 8 n
          txTrunc := decide (n < 33)
          err := if n < 33 then .encodeTruncation else .ok } ∧
        t.txBuf.length = s.txBuf.length ∧
        ∀ j : Nat, readWord t.txBuf j =
          if n ≤ j then readWord s.txBuf j
          else if j = 0 then s.timStart.extractLsb' 16 16 ++ s.timStart.extractLsb' 0 16
          else if s.frame.getLsbD (8 * ((j - 1) / 8) + 7 - (j - 1) % 8) then
            s.timStart.extractLsb' 16 16 ++ s.timBits.extractLsb' 16 16
          else s.timStart.extractLsb' 16 16 ++ s.timBits.extractLsb' 0 16)

/-- SEND: its one word, its refusals in their order, and its effect, which hands the buffer over: TX_BUSY, TX_FAIL, TX_GO(TX_COUNT)
(R125). -/
def Obligations.SendStartsTheTransmission : Prop :=
  (∀ w : Word, decode w = .command .send ↔ w = 0x00000007#32) ∧
  ∀ s : State, exec .send s = .next
    (if s.txCount = 0#8 then { s with err := .badState }
    else if s.txBusy = true then { s with err := .txBusy }
    else if s.txTrunc = true then { s with err := .encodeTruncation }
    else { s with txBusy := true, txFail := false, err := .ok, outputs := { s.outputs with txGo := some s.txCount } })

/-- `@tx_done` ends a transmission and records failure; with none in progress it is ignored. It does not write ERR (R126). -/
def Obligations.TxDoneEndsTheTransmission : Prop :=
  ∀ (s : State) (rest : List Input) (success : Bool), s.inputs = .txDone success :: rest →
    (s.txBusy = true → step s = .next { s.beginStep rest with txBusy := false, txFail := !success }) ∧
      (s.txBusy = false → step s = .next (s.beginStep rest))

/-- While TX_BUSY = 1 no step but reset changes TX_BUF, TX_COUNT or TX_TRUNC: the transmitter sees the words present at SEND
(R81). -/
def Obligations.TransmitBufferIsStableWhileBusy : Prop :=
  ∀ s t : State, s.txBusy = true → s.nextInput ≠ some .reset → step s = .next t →
    t.txBuf = s.txBuf ∧ t.txCount = s.txCount ∧ t.txTrunc = s.txTrunc

/-- The total duration of a full encoding in TX_BUF is S + 33 G + k O + (32 - k) Z, where k is the number of 1 bits of the frame (R127
item 3). -/
def Obligations.WaveformDuration : Prop :=
  ∀ (s t : State) (k : Nat), k = ((List.range 32).filter (fun i => s.frameWord.getLsbD i)).length →
    33 ≤ s.txBuf.length → exec .encode s = .next t → t.err = .ok →
    ((List.range 33).map (fun j => symbolDuration (readWord t.txBuf j))).sum =
      s.timing.startOn.toNat + 33 * s.timing.off.toNat + k * s.timing.oneOn.toNat + (32 - k) * s.timing.zeroOn.toNat

/-! ### Classifier and decoder (42_classifier_decoder.md) -/

/-- TIMING_OK says that the four timing constants are positive, at every moment; it is 1 at reset (R37). -/
def Obligations.TimingOkMeansPositiveDurations : Prop :=
  (∀ s : State, s.statusWord.getLsbD 8 = true ↔
    s.timStart.extractLsb' 0 16 ≠ 0#16 ∧ s.timStart.extractLsb' 16 16 ≠ 0#16 ∧
      s.timBits.extractLsb' 0 16 ≠ 0#16 ∧ s.timBits.extractLsb' 16 16 ≠ 0#16) ∧
    ∀ (depth : BitVec 8) (draw : Nat), (State.powerUp depth draw).statusWord.getLsbD 8 = true

/-- WM_OK says that each band is ordered and each lies above the next, at every moment; it is 0 at reset (R38). -/
def Obligations.WmOkMeansOrderedBands : Prop :=
  (∀ s : State, s.statusWord.getLsbD 9 = true ↔
    s.wmStart.extractLsb' 0 16 ≤ s.wmStart.extractLsb' 16 16 ∧ s.wmOne.extractLsb' 0 16 ≤ s.wmOne.extractLsb' 16 16 ∧
      s.wmZero.extractLsb' 0 16 ≤ s.wmZero.extractLsb' 16 16 ∧ s.wmGap.extractLsb' 0 16 ≤ s.wmGap.extractLsb' 16 16 ∧
      s.wmOne.extractLsb' 16 16 < s.wmStart.extractLsb' 0 16 ∧ s.wmZero.extractLsb' 16 16 < s.wmOne.extractLsb' 0 16 ∧
      s.wmGap.extractLsb' 16 16 < s.wmZero.extractLsb' 0 16) ∧
    ∀ (depth : BitVec 8) (draw : Nat), (State.powerUp depth draw).statusWord.getLsbD 9 = false

/-- With WM_OK = 1 no duration lies in two bands: the bands are pairwise disjoint, and the priority order decides nothing (R130). -/
def Obligations.ValidBandsAreDisjoint : Prop :=
  ∀ (s : State) (d : Duration), s.wmOk = true →
    ([s.wmStart, s.wmOne, s.wmZero, s.wmGap].filter (fun band => inBand band d)).length ≤ 1

/-- CLASSIFY: its one word, its refusal, and its effect: the code of the first band that contains ON to RESULT, Start 4, One 3, Zero 2,
Gap 1, and 0 where none does (R96, R128, R138). -/
def Obligations.ClassifyReportsTheFirstBand : Prop :=
  (∀ w : Word, decode w = .command .classify ↔ w = 0x00000008#32) ∧
  ∀ (s : State) (d : Duration), d = s.sym.extractLsb' 0 16 →
    (s.wmOk = false → exec .classify s = .next { s with err := .configurationError }) ∧
    (s.wmOk = true → exec .classify s = .next
      { s with
        result :=
          if s.wmStart.extractLsb' 0 16 ≤ d ∧ d ≤ s.wmStart.extractLsb' 16 16 then 4
          else if s.wmOne.extractLsb' 0 16 ≤ d ∧ d ≤ s.wmOne.extractLsb' 16 16 then 3
          else if s.wmZero.extractLsb' 0 16 ≤ d ∧ d ≤ s.wmZero.extractLsb' 16 16 then 2
          else if s.wmGap.extractLsb' 0 16 ≤ d ∧ d ≤ s.wmGap.extractLsb' 16 16 then 1
          else 0
        err := .ok })

/-- DECODE of a batch that is one Start symbol and then only One and Zero symbols, at least 16 of them, gives the frame whose wire
bits they are, the bits never collected 0; symbols after index 32 do not matter, nor does any OFF field (R129, R132 to R136, R139). -/
def Obligations.DecodeAssemblesTheFrame : Prop :=
  ∀ (s : State) (f : Word) (n : Nat), s.wmOk = true → 17 ≤ s.rxCount.toNat → n = min (s.rxCount.toNat - 1) 32 →
    inBand s.wmStart (lowHalf (readWord s.rxBuf 0)) = true →
    (∀ k < n, inBand (if f.getLsbD (8 * (k / 8) + 7 - k % 8) then s.wmOne else s.wmZero)
      (lowHalf (readWord s.rxBuf (k + 1))) = true) →
    (∀ k < 32, n ≤ k → f.getLsbD (8 * (k / 8) + 7 - k % 8) = false) →
    exec .decode s = .next { s with rxFrame := f, result := decodedFrame f, err := .ok }

/-- DECODE fails with NoStart on an empty batch or a first symbol that is not Start, with MalformedSymbol at the first data symbol
that is not One or Zero, and with ShortFrame after fewer than 16 data bits; RX_FRAME and RESULT are then 0 (R132 to R135, R139). -/
def Obligations.DecodeReportsTheFirstFailure : Prop :=
  ∀ s : State, s.wmOk = true →
    (s.rxCount = 0#8 ∨ classifySymbol s.bands (readWord s.rxBuf 0) ≠ .start →
      exec .decode s = .next { s with rxFrame := 0, result := 0, err := .noStart }) ∧
    (s.rxCount ≠ 0#8 → classifySymbol s.bands (readWord s.rxBuf 0) = .start →
      (∀ k, 1 ≤ k → k ≤ min (s.rxCount.toNat - 1) 32 →
        classifySymbol s.bands (readWord s.rxBuf k) ≠ .one → classifySymbol s.bands (readWord s.rxBuf k) ≠ .zero →
        exec .decode s = .next { s with rxFrame := 0, result := 0, err := .malformedSymbol }) ∧
      (s.rxCount.toNat ≤ 16 →
        (∀ k, 1 ≤ k → k < s.rxCount.toNat → classifySymbol s.bands (readWord s.rxBuf k) = .one ∨
          classifySymbol s.bands (readWord s.rxBuf k) = .zero) →
        exec .decode s = .next { s with rxFrame := 0, result := 0, err := .shortFrame }))

/-- Decode depends on RX_COUNT, RX_BUF[0 .. min(RX_COUNT-1, 32)] and the WM registers alone, and classify on the ON field of SYM and
the WM registers alone, and so do the commands: DECODE writes RESULT, RX_FRAME and ERR, and CLASSIFY RESULT and ERR, from these
alone, and where they refuse (WM_OK = 0) they keep RESULT and RX_FRAME (R138, R139, R141). -/
def Obligations.DecodingReadsOnlyItsOperands : Prop :=
  ∀ s t s' t' : State, s.bands = t.bands →
    (s.rxCount = t.rxCount →
      (∀ j, j < min s.rxCount.toNat 33 → readWord s.rxBuf j = readWord t.rxBuf j) →
      s.decodeReceived = t.decodeReceived ∧
      (exec .decode s = .next s' → exec .decode t = .next t' →
        s'.err = t'.err ∧
        (s.wmOk = true → s'.result = t'.result ∧ s'.rxFrame = t'.rxFrame) ∧
        (s.wmOk = false → s'.result = s.result ∧ s'.rxFrame = s.rxFrame))) ∧
    (s.sym.extractLsb' 0 16 = t.sym.extractLsb' 0 16 →
      classifySymbol s.bands s.sym = classifySymbol t.bands t.sym ∧
      (exec .classify s = .next s' → exec .classify t = .next t' →
        s'.err = t'.err ∧ s'.rxFrame = s.rxFrame ∧
        (s.wmOk = true → s'.result = t'.result) ∧
        (s.wmOk = false → s'.result = s.result)))

/-- The decoded-frame word has the fields of the frame at their places, the damage of the code, V = 1, and 0 elsewhere (R98,
R137). -/
def Obligations.DecodedFrameLayout : Prop :=
  ∀ f : Word,
    (decodedFrame f).extractLsb' 0 7 = f.extractLsb' 0 7 ∧ (decodedFrame f).extractLsb' 7 1 = 0 ∧
      (decodedFrame f).extractLsb' 8 2 = f.extractLsb' 14 2 ∧ (decodedFrame f).extractLsb' 10 2 = 0 ∧
      (decodedFrame f).extractLsb' 12 4 = f.extractLsb' 10 4 ∧
      (decodedFrame f).extractLsb' 16 7 = dequantize (f.extractLsb' 10 4) ∧
      (decodedFrame f).extractLsb' 23 8 = 0 ∧ (decodedFrame f).getLsbD 31 = true

/-- The encode/decode round trip: in a non-degenerate configuration with CAP ≥ 33, PACK, ENCODE, and then DECODE of the 33 words
that ENCODE wrote, gives back the player id, the team id, the damage code and its damage (R131, R140). -/
def Obligations.EncodeDecodeRoundTrip : Prop :=
  ∀ (p : BitVec 7) (t : BitVec 2) (c : BitVec 4) (s packed sent rcv : State),
    s.NonDegenerate → s.txBusy = false → 33 ≤ s.cap.toNat → 33 ≤ s.txBuf.length →
    exec (.pack p t c) s = .next packed → exec .encode packed = .next sent →
    rcv.bands = s.bands → rcv.rxCount = 33 → (∀ j < 33, readWord rcv.rxBuf j = readWord sent.txBuf j) →
    exec .decode rcv = .next
      { rcv with
        rxFrame := 0#16 ++ t ++ c ++ 0#2 ++ 0#1 ++ p
        result := 1#1 ++ 0#8 ++ dequantize c ++ c ++ 0#2 ++ t ++ 0#1 ++ p
        err := .ok }

/-! ### Reception session (43_reception_session.md) -/

/-- ARM: its one word, its refusals in their order, and its effect: in Idle with a valid configuration it starts listening and
asserts RESUME (R151). -/
def Obligations.ArmStartsListening : Prop :=
  (∀ w : Word, decode w = .command .arm ↔ w = 0x0000000A#32) ∧
  ∀ s : State, exec .arm s = .next
    (if s.session ≠ .idle then { s with err := .badState }
    else if s.timingOk = false ∨ s.wmOk = false then { s with err := .configurationError }
    else { s with session := .armed, err := .ok, outputs := { s.outputs with resume := true } })

/-- TICK with an empty mailbox: it ends an expired cooldown with RESUME, and does nothing else (R146, R152). -/
def Obligations.TickExpiresTheCooldown : Prop :=
  ∀ s : State, s.session ≠ .idle → s.mbFull = false →
    exec .tick s = .next
      (if s.session = .coolingDown ∧ s.cooldown ≤ s.now - s.lastHit then
        { s with
          session := if s.cacheValid then .hitPending else .armed
          err := .ok
          outputs := { s.outputs with resume := true } }
      else { s with err := .ok })

/-- A batch that decodes while listening, where the cache is empty (R67 item 3): TICK caches the hit and goes to HitPending; POLL
delivers it at once. No RESUME (R147, R149, R150). -/
def Obligations.DecodedBatchIsCachedOrDelivered : Prop :=
  ∀ (s : State) (f : Word), s.session = .armed → s.mbFull = true → s.cacheValid = false → s.decodeReceived = .frame f →
    exec .tick s = .next
      { s with
        mbFull := false, rxFrame := f, cache := decodedFrame f, cacheValid := true, session := .hitPending, err := .ok } ∧
    exec .poll s = .next
      { s with
        mbFull := false, rxFrame := f, cache := decodedFrame f, hit := decodedFrame f, lastHit := s.now, lhValid := true,
        session := .coolingDown, err := .ok }

/-- A batch that does not decode is discarded: RX_FRAME is 0, and TICK reports the decode error. POLL reports it too, with HIT 0, where
it has no hit to deliver: while listening, which goes on with RESUME, inside the cooldown, which goes on without, and after an expired
cooldown with an empty cache. With a cached hit in HitPending or after an expired cooldown POLL delivers that hit and reports OK
(R146, R147, R149, R150, R152, R153, R168). -/
def Obligations.FailedBatchIsDiscarded : Prop :=
  ∀ (s : State) (e : ErrCode), s.mbFull = true → s.decodeReceived = .error e →
    (s.session = .armed →
      exec .tick s = .next
        { s with mbFull := false, rxFrame := 0, err := e, outputs := { s.outputs with resume := true } } ∧
      exec .poll s = .next
        { s with mbFull := false, rxFrame := 0, hit := 0, err := e, outputs := { s.outputs with resume := true } }) ∧
    (s.session = .hitPending →
      exec .tick s = .next { s with mbFull := false, rxFrame := 0, err := e } ∧
      exec .poll s = .next
        { s with
          mbFull := false, rxFrame := 0, hit := s.cache, cacheValid := false, lastHit := s.now, lhValid := true,
          session := .coolingDown, err := .ok }) ∧
    (s.session = .coolingDown → s.now - s.lastHit < s.cooldown →
      exec .tick s = .next { s with mbFull := false, rxFrame := 0, err := e } ∧
      exec .poll s = .next { s with mbFull := false, rxFrame := 0, hit := 0, err := e }) ∧
    (s.session = .coolingDown → s.cooldown ≤ s.now - s.lastHit →
      exec .tick s = .next
        { s with
          mbFull := false, rxFrame := 0, session := if s.cacheValid then .hitPending else .armed, err := e
          outputs := { s.outputs with resume := true } } ∧
      (s.cacheValid = false → exec .poll s = .next
        { s with
          mbFull := false, rxFrame := 0, session := .armed, hit := 0, err := e
          outputs := { s.outputs with resume := true } }) ∧
      (s.cacheValid = true → exec .poll s = .next
        { s with
          mbFull := false, rxFrame := 0, hit := s.cache, cacheValid := false, lastHit := s.now, lhValid := true, err := .ok
          outputs := { s.outputs with resume := true } }))

/-- POLL with an empty mailbox. In HitPending it delivers the cached hit and starts the cooldown at NOW. Inside a cooldown it reports
SessionBusy, and in Armed NoFrame, with HIT 0. When the cooldown has expired it asserts RESUME, and it delivers the cached hit, which
starts the next cooldown, or, with no hit cached, it ends in Armed with NoFrame and HIT 0 (R146, R149, R150, R153). -/
def Obligations.PollDeliversTheCachedHit : Prop :=
  ∀ s : State, s.mbFull = false →
    (s.session = .hitPending → exec .poll s = .next
      { s with
        hit := s.cache, cacheValid := false, lastHit := s.now, lhValid := true, session := .coolingDown, err := .ok }) ∧
    (s.session = .coolingDown → s.now - s.lastHit < s.cooldown →
      exec .poll s = .next { s with hit := 0, err := .sessionBusy }) ∧
    (s.session = .armed → exec .poll s = .next { s with hit := 0, err := .noFrame }) ∧
    (s.session = .coolingDown → s.cooldown ≤ s.now - s.lastHit →
      (s.cacheValid = true → exec .poll s = .next
        { s with
          hit := s.cache, cacheValid := false, lastHit := s.now, lhValid := true, session := .coolingDown, err := .ok
          outputs := { s.outputs with resume := true } }) ∧
      (s.cacheValid = false → exec .poll s = .next
        { s with session := .armed, hit := 0, err := .noFrame, outputs := { s.outputs with resume := true } }))

/-- A batch that decodes in CoolingDown with the cache empty. Inside the cooldown it is cached and not delivered. When the cooldown
has expired RESUME is asserted, TICK caches the hit and goes to HitPending, and POLL delivers it at once, which starts the next
cooldown (R146, R147, R149, 90_conflicts.md C3). -/
def Obligations.HitInsideCooldownIsCached : Prop :=
  ∀ (s : State) (f : Word), s.session = .coolingDown →
    s.mbFull = true → s.cacheValid = false → s.decodeReceived = .frame f →
    (s.now - s.lastHit < s.cooldown →
      exec .tick s = .next
        { s with mbFull := false, rxFrame := f, cache := decodedFrame f, cacheValid := true, err := .ok } ∧
      exec .poll s = .next
        { s with
          mbFull := false, rxFrame := f, cache := decodedFrame f, cacheValid := true, hit := 0, err := .sessionBusy }) ∧
    (s.cooldown ≤ s.now - s.lastHit →
      exec .tick s = .next
        { s with
          mbFull := false, rxFrame := f, cache := decodedFrame f, cacheValid := true, session := .hitPending, err := .ok
          outputs := { s.outputs with resume := true } } ∧
      exec .poll s = .next
        { s with
          mbFull := false, rxFrame := f, cache := decodedFrame f, hit := decodedFrame f, lastHit := s.now, lhValid := true
          err := .ok, outputs := { s.outputs with resume := true } })

/-- A hit decoded while the cache is full is discarded: the batch leaves the mailbox, only RX_FRAME shows it, and the first cached hit
stays and is the one a POLL delivers, in HitPending and after an expired cooldown. Inside the cooldown POLL reports SessionBusy. (In
Armed the cache is never full, R67 item 3; that form is stated too.) (R148.) -/
def Obligations.FirstCachedHitIsKept : Prop :=
  ∀ (s : State) (f : Word), s.cacheValid = true → s.mbFull = true → s.decodeReceived = .frame f →
    (s.session = .hitPending →
      exec .tick s = .next { s with mbFull := false, rxFrame := f, err := .ok } ∧
      exec .poll s = .next
        { s with
          mbFull := false, rxFrame := f, hit := s.cache, cacheValid := false, lastHit := s.now, lhValid := true
          session := .coolingDown, err := .ok }) ∧
    (s.session = .coolingDown → s.now - s.lastHit < s.cooldown →
      exec .tick s = .next { s with mbFull := false, rxFrame := f, err := .ok } ∧
      exec .poll s = .next { s with mbFull := false, rxFrame := f, hit := 0, err := .sessionBusy }) ∧
    (s.session = .coolingDown → s.cooldown ≤ s.now - s.lastHit →
      exec .tick s = .next
        { s with
          mbFull := false, rxFrame := f, session := .hitPending, err := .ok
          outputs := { s.outputs with resume := true } } ∧
      exec .poll s = .next
        { s with
          mbFull := false, rxFrame := f, hit := s.cache, cacheValid := false, lastHit := s.now, lhValid := true, err := .ok
          outputs := { s.outputs with resume := true } }) ∧
    (s.session = .armed →
      exec .tick s = .next
        { s with mbFull := false, rxFrame := f, err := .ok, outputs := { s.outputs with resume := true } } ∧
      exec .poll s = .next
        { s with
          mbFull := false, rxFrame := f, hit := 0, err := .noFrame, outputs := { s.outputs with resume := true } })

/-- CANCEL: its one word, its refusal, and its effect: it leaves CoolingDown to HitPending when a hit is cached, else to Armed, and
asserts RESUME (R154). -/
def Obligations.CancelLeavesTheCooldown : Prop :=
  (∀ w : Word, decode w = .command .cancel ↔ w = 0x0000000D#32) ∧
  ∀ s : State, exec .cancel s = .next
    (if s.session ≠ .coolingDown then { s with err := .badState }
    else
      { s with
        session := if s.cacheValid then .hitPending else .armed
        err := .ok
        outputs := { s.outputs with resume := true } })

/-- TEARDOWN: its one word, and its effect: from any state it destroys the session (R155). -/
def Obligations.TeardownDestroysTheSession : Prop :=
  (∀ w : Word, decode w = .command .teardown ↔ w = 0x0000000E#32) ∧
  ∀ s : State, exec .teardown s = .next
    { s with
      session := .idle, mbFull := false, cacheValid := false, cache := 0, lhValid := false, lastHit := 0, err := .ok }

/-- A batch the mailbox accepts: its first m = min(L, CAP) words stand in RX_BUF, the words from m up and all else keep their
values (R80, R144). -/
def Obligations.AcceptedBatchFillsTheMailbox : Prop :=
  ∀ (s : State) (rest : List Input) (batch : List Word) (m : Nat), s.inputs = .rxBatch batch :: rest →
    s.session ≠ .idle → s.mbFull = false → m = min batch.length s.cap.toNat → m ≤ s.rxBuf.length →
    ∃ t, step s = .next t ∧
      t = { s.beginStep rest with
        rxBuf := t.rxBuf, rxCount := BitVec.ofNat 8 m, rxTrunc := decide (m < batch.length), mbFull := true } ∧
      t.rxBuf.length = s.rxBuf.length ∧
      ∀ j : Nat, readWord t.rxBuf j = if j < m then readWord batch j else readWord s.rxBuf j

/-- A batch that arrives in Idle or finds the mailbox full is dropped: only RX_DROP is set (R145). -/
def Obligations.UnacceptedBatchIsDropped : Prop :=
  ∀ (s : State) (rest : List Input) (batch : List Word), s.inputs = .rxBatch batch :: rest →
    s.session = .idle ∨ s.mbFull = true → step s = .next { s.beginStep rest with rxDrop := true }

/-- A NOW earlier than LAST_HIT by d, with d ≤ 2^32 - COOLDOWN, expires the cooldown at once: a TICK with an empty mailbox ends it
(R146, R193). -/
def Obligations.EarlierNowExpiresAtOnce : Prop :=
  ∀ (s : State) (d : Nat), s.session = .coolingDown → s.mbFull = false → 0 < d → d + s.cooldown.toNat ≤ 2 ^ 32 →
    s.now = s.lastHit - BitVec.ofNat 32 d →
    exec .tick s = .next
      { s with
        session := if s.cacheValid then .hitPending else .armed
        err := .ok
        outputs := { s.outputs with resume := true } }

/-- The session moves only along the table of R159: ARM, a drain, an expiry, a delivery, CANCEL, TEARDOWN, and reset. -/
def Obligations.SessionMovesOnlyAlongTheTable : Prop :=
  ∀ s t : State, step s = .next t → s.session ≠ t.session →
    s.nextInput = some .reset ∨
    (s.nextCommand = some .arm ∧ s.session = .idle ∧ t.session = .armed) ∨
    (s.nextCommand = some .tick ∧ s.session = .armed ∧ t.session = .hitPending) ∨
    (s.nextCommand = some .poll ∧ (s.session = .armed ∨ s.session = .hitPending) ∧ t.session = .coolingDown) ∨
    (s.nextCommand = some .tick ∧ s.session = .coolingDown ∧ (t.session = .armed ∨ t.session = .hitPending)) ∨
    (s.nextCommand = some .poll ∧ s.session = .coolingDown ∧ t.session = .armed) ∨
    (s.nextCommand = some .cancel ∧ s.session = .coolingDown ∧ (t.session = .armed ∨ t.session = .hitPending)) ∨
    (s.nextCommand = some .teardown ∧ t.session = .idle)

/-- RESUME is asserted in exactly the steps where ARM leaves Idle, an expiry or CANCEL leaves CoolingDown, or a drain ends in Armed,
which is a batch that failed to decode (R150). -/
def Obligations.ResumeIsAssertedExactlyWhenListeningRestarts : Prop :=
  ∀ s t : State, s.Inv → step s = .next t →
    (t.outputs.resume = true ↔
      (s.nextCommand = some .arm ∧ s.session = .idle ∧ s.timingOk = true ∧ s.wmOk = true) ∨
      (s.nextCommand = some .cancel ∧ s.session = .coolingDown) ∨
      ((s.nextCommand = some .tick ∨ s.nextCommand = some .poll) ∧ s.session = .coolingDown ∧
        s.cooldown ≤ s.now - s.lastHit) ∨
      ((s.nextCommand = some .tick ∨ s.nextCommand = some .poll) ∧ s.session = .armed ∧ s.mbFull = true ∧
        ∃ e, s.decodeReceived = .error e))

/-- Debounce: from a state in the cooldown that began at t0, through any run of steps that stay inside it (no CANCEL, TEARDOWN or
reset, and every TICK and POLL at a NOW less than COOLDOWN after t0), the cooldown goes on and no POLL delivers a hit (R158; that the
clock of the steps between does not run past the cooldown is the host's duty of R180, log 13). -/
def Obligations.NoHitIsDeliveredInsideTheCooldown : Prop :=
  ∀ (t0 : Word) (s t u : State), s.session = .coolingDown → s.lastHit = t0 →
    Run (State.InsideCooldown t0) s t → t.InsideCooldown t0 → step t = .next u →
    u.session = .coolingDown ∧ u.lastHit = t0 ∧ u.cooldown = s.cooldown ∧ deliversHit t u = false

/-- Once per batch, once per hit: over any run from a state of the invariant, the hits delivered are at most the batches accepted,
one for the batch that was in the mailbox and one for the hit that was cached (R157). -/
def Obligations.HitsNeverExceedAcceptedBatches : Prop :=
  ∀ (s t : State) (accepted delivered : Nat), s.Inv → CountedRun s accepted delivered t →
    delivered + t.mbFull.toNat + t.cacheValid.toNat ≤ accepted + s.mbFull.toNat + s.cacheValid.toNat

/-! ### The whole machine -/

/-- Every step keeps the invariant of R67, with what it rests on. -/
def Obligations.EveryStepKeepsTheInvariant : Prop :=
  ∀ s t : State, s.Inv → step s = .next t → t.Inv

/-- The invariant holds after reset, for every legal BUF_DEPTH and whatever the buffers hold, and so at the reset state of the
reference instance (R67, R68). -/
def Obligations.ResetSatisfiesTheInvariant : Prop :=
  (∀ (depth : BitVec 8) (draw : Nat), 64 ≤ depth.toNat → depth.toNat ≤ 192 → (State.powerUp depth draw).Inv) ∧
    State.reset.Inv

/-- What a host reads in each register after reset, for an instance of the given BUF_DEPTH (R24, R27, R68). -/
def Sys2Proof.Machine.resetReads (depth : BitVec 8) : List (Reg × Word) :=
  [(.info, 0x01#8 ++ 0x20#8 ++ 0x10#8 ++ depth), (.cmd, 0x00000000#32), (.status, 0x00000100#32),
   (.result, 0x00000000#32), (.now, 0x00000000#32), (.sym, 0x00000000#32), (.frame, 0x00000000#32),
   (.txCount, 0x00000000#32), (.rxCount, 0x00000000#32), (.rxFrame, 0x00000000#32), (.hit, 0x00000000#32),
   (.lastHit, 0x00000000#32), (.timStart, 0x02580960#32), (.timBits, 0x04B00258#32), (.wmStart, 0x00000000#32),
   (.wmOne, 0x00000000#32), (.wmZero, 0x00000000#32), (.wmGap, 0x00000000#32), (.cooldown, 0x000005DC#32),
   (.cap, 0#24 ++ depth), (.self, 0x00000000#32)]

/-- The flags and hidden state that reset leaves, each by itself (R31 to R36, R39 to R42, R63, R68). -/
def Sys2Proof.Machine.State.flagsAreReset (s : State) : Prop :=
  s.session = .idle ∧ s.cacheValid = false ∧ s.mbFull = false ∧ s.lhValid = false ∧ s.txBusy = false ∧
    s.txTrunc = false ∧ s.txFail = false ∧ s.rxTrunc = false ∧ s.rxDrop = false ∧ s.wlock = false ∧ s.err = .ok ∧
    s.cache = 0

/-- What reset leaves: STATUS 0x00000100, the source's timing, COOLDOWN 1500, CAP = BUF_DEPTH, 0 elsewhere, and every flag clear. It
holds of the state at power-on, and of the state that the reset step leaves from any state, which keeps BUF_DEPTH; a done event that
comes after a reset is then ignored (R24, R27, R68, R184, R186). -/
def Obligations.ResetRegisterValues : Prop :=
  (∀ (depth : BitVec 8) (draw : Nat),
    (∀ p ∈ resetReads depth, readReg (State.powerUp depth draw) p.1 = p.2) ∧ (State.powerUp depth draw).flagsAreReset) ∧
  ∀ (s : State) (rest : List Input), s.inputs = .reset :: rest →
    ∃ t, step s = .next t ∧ t.depth = s.depth ∧ t.inputs = rest ∧ t.flagsAreReset ∧
      (∀ p ∈ resetReads s.depth, readReg t p.1 = p.2) ∧
      ∀ (success : Bool) (later : List Input), rest = .txDone success :: later →
        step t = .next { t with inputs := later }

/-- Reset destroys the session and clears every flag, and a batch that comes after it is dropped with RX_DROP (R187). -/
def Obligations.ResetDestroysTheSession : Prop :=
  ∀ (s : State) (batch : List Word) (rest : List Input), s.inputs = .reset :: .rxBatch batch :: rest →
    ∃ t u, step s = .next t ∧ t.flagsAreReset ∧ t.rxFrame = 0 ∧ t.lastHit = 0 ∧ t.depth = s.depth ∧
      step t = .next u ∧ u = { t with rxDrop := true, inputs := rest }

/-- STATUS.ERR is written by commands and by reset alone: any other step keeps it, a host write to another register among them.
Reset makes it OK and asserts neither RESUME nor TX_GO (R26, R185). -/
def Obligations.OnlyCommandsAndResetWriteErr : Prop :=
  ∀ s t : State, step s = .next t →
    ((∀ w, s.nextInput ≠ some (.hostWrite 1 w)) → s.nextInput ≠ some .reset → t.err = s.err) ∧
      (s.nextInput = some .reset → t.err = .ok ∧ t.outputs.resume = false ∧ t.outputs.txGo = none)

/-- The configuration changes only by reset, or by a host write in Idle to a register other than CMD: no command changes it, and
from ARM to TEARDOWN it is fixed (R23, R25, R189). -/
def Obligations.ConfigurationChangesOnlyInIdle : Prop :=
  ∀ s t : State, step s = .next t → t.configuration ≠ s.configuration →
    s.nextInput = some .reset ∨
      (s.session = .idle ∧ ∃ a w, a ≠ 1 ∧ s.nextInput = some (.hostWrite a w))

/-- Each register and flag that is no part of the configuration has its own writers, reset apart, and INFO.DEPTH has none. A flag that
is set and cleared by different steps has a clause for each direction. STATE and ERR have statements of their own (R27, R31 to R36, R39 to R41, R43 to R51, R62, R63). -/
def Obligations.RegistersChangeOnlyByTheirWriters : Prop :=
  ∀ s t : State, step s = .next t → s.nextInput ≠ some .reset →
    t.depth = s.depth ∧
    (t.result ≠ s.result →
      (∃ d, s.nextCommand = some (.quant d)) ∨ (∃ c, s.nextCommand = some (.dequant c)) ∨
      (∃ p d c, s.nextCommand = some (.pack p d c)) ∨ (∃ d, s.nextCommand = some (.packs d)) ∨
      s.nextCommand = some .unpack ∨ s.nextCommand = some .classify ∨ s.nextCommand = some .decode) ∧
    (t.now ≠ s.now → ∃ w, s.nextInput = some (.hostWrite 4 w)) ∧
    (t.sym ≠ s.sym → ∃ w, s.nextInput = some (.hostWrite 5 w)) ∧
    (t.frame ≠ s.frame → (∃ p d c, s.nextCommand = some (.pack p d c)) ∨ (∃ d, s.nextCommand = some (.packs d)) ∨
      ∃ w, s.nextInput = some (.hostWrite 6 w)) ∧
    (t.txCount ≠ s.txCount ∨ t.txBuf ≠ s.txBuf ∨ t.txTrunc ≠ s.txTrunc → s.nextCommand = some .encode) ∧
    (t.rxCount ≠ s.rxCount →
      s.acceptsBatch = true ∨ s.session = .idle ∧ ∃ w, s.nextInput = some (.hostWrite 8 w)) ∧
    (t.rxBuf ≠ s.rxBuf →
      s.acceptsBatch = true ∨ s.session = .idle ∧ ∃ a w, s.nextInput = some (.hostWrite a w) ∧
        0x200 ≤ a.toNat ∧ a.toNat < 0x200 + s.depth.toNat) ∧
    (t.rxFrame ≠ s.rxFrame →
      s.nextCommand = some .decode ∨ s.nextCommand = some .tick ∨ s.nextCommand = some .poll) ∧
    (t.hit ≠ s.hit → s.nextCommand = some .poll) ∧
    (t.lastHit ≠ s.lastHit → s.nextCommand = some .poll ∨ s.nextCommand = some .teardown) ∧
    (t.cache ≠ s.cache →
      s.nextCommand = some .tick ∨ s.nextCommand = some .poll ∨ s.nextCommand = some .teardown) ∧
    (s.cacheValid = false → t.cacheValid = true → s.nextCommand = some .tick ∨ s.nextCommand = some .poll) ∧
    (s.cacheValid = true → t.cacheValid = false → s.nextCommand = some .poll ∨ s.nextCommand = some .teardown) ∧
    (s.mbFull = false → t.mbFull = true → s.acceptsBatch = true) ∧
    (s.mbFull = true → t.mbFull = false →
      s.nextCommand = some .tick ∨ s.nextCommand = some .poll ∨ s.nextCommand = some .teardown) ∧
    (s.lhValid = false → t.lhValid = true → s.nextCommand = some .poll) ∧
    (s.lhValid = true → t.lhValid = false → s.nextCommand = some .teardown) ∧
    (s.txBusy = false → t.txBusy = true → s.nextCommand = some .send) ∧
    (s.txBusy = true → t.txBusy = false → ∃ ok, s.nextInput = some (.txDone ok)) ∧
    (s.txFail = false → t.txFail = true → s.txBusy = true ∧ s.nextInput = some (.txDone false)) ∧
    (s.txFail = true → t.txFail = false →
      s.nextCommand = some .send ∨ s.txBusy = true ∧ s.nextInput = some (.txDone true)) ∧
    (t.rxTrunc ≠ s.rxTrunc → s.acceptsBatch = true) ∧
    (s.rxDrop = false → t.rxDrop = true →
      (∃ batch, s.nextInput = some (.rxBatch batch)) ∧ (s.session = .idle ∨ s.mbFull = true)) ∧
    (s.rxDrop = true → t.rxDrop = false → s.nextCommand = some .clrerr) ∧
    (s.wlock = false → t.wlock = true → s.session ≠ .idle ∧ ∃ a w, s.nextInput = some (.hostWrite a w) ∧
      (a.toNat ∈ [8, 12, 13, 14, 15, 16, 17, 18, 19, 20] ∨ (0x200 ≤ a.toNat ∧ a.toNat < 0x200 + s.depth.toNat))) ∧
    (s.wlock = true → t.wlock = false → s.nextCommand = some .clrerr)

/-! ### The host port (20_memory.md, 10_state.md) -/

/-- The word indices that are mapped: 21 registers, TX_BUF and RX_BUF (R71). -/
def Sys2Proof.Machine.mappedIndex (depth : BitVec 8) (a : BitVec 10) : Prop :=
  a.toNat < 21 ∨ (0x100 ≤ a.toNat ∧ a.toNat < 0x100 + depth.toNat) ∨
    (0x200 ≤ a.toNat ∧ a.toNat < 0x200 + depth.toNat)

/-- An access to an unmapped offset changes no state and gets BusErr, a read of it data 0; an access to a mapped offset gets OK (R71,
R72). -/
def Obligations.UnmappedAccessGetsBusErr : Prop :=
  ∀ (s : State) (rest : List Input) (a : BitVec 10) (w : Word),
    (¬mappedIndex s.depth a →
      (s.inputs = .hostRead a :: rest → step s = .next
        { s.beginStep rest with outputs := { Outputs.quiet with bus := some .busErr, readData := some 0 } }) ∧
      (s.inputs = .hostWrite a w :: rest → step s = .next
        { s.beginStep rest with outputs := { Outputs.quiet with bus := some .busErr } })) ∧
    (mappedIndex s.depth a → s.inputs = .hostRead a :: rest ∨ s.inputs = .hostWrite a w :: rest →
      ∃ t, step s = .next t ∧ t.outputs.bus = some .ok)

/-- A host read returns the register at its offset, or the buffer word, and has no side effect (R24, R71, R73, R79). -/
def Obligations.HostReadReturnsTheWord : Prop :=
  ∀ (s : State) (rest : List Input) (a : BitVec 10) (v : Word), s.inputs = .hostRead a :: rest →
    ((a.toNat, v) ∈ [(0, 0x01#8 ++ 0x20#8 ++ 0x10#8 ++ s.depth), (1, 0#32), (2, s.statusWord), (3, s.result), (4, s.now),
        (5, s.sym), (6, 0#16 ++ s.frame), (7, 0#24 ++ s.txCount), (8, 0#24 ++ s.rxCount), (9, s.rxFrame), (10, s.hit),
        (11, s.lastHit), (12, s.timStart), (13, s.timBits), (14, s.wmStart), (15, s.wmOne), (16, s.wmZero),
        (17, s.wmGap), (18, s.cooldown), (19, 0#24 ++ s.cap), (20, 0#22 ++ s.selfTid ++ 0#1 ++ s.selfPid)] ∨
      (∃ i, i < s.depth.toNat ∧ a.toNat = 0x100 + i ∧ v = readWord s.txBuf i) ∨
      (∃ i, i < s.depth.toNat ∧ a.toNat = 0x200 + i ∧ v = readWord s.rxBuf i)) →
    step s = .next
      { s.beginStep rest with outputs := { Outputs.quiet with bus := some .ok, readData := some v } }

/-- The STATUS word: every field at its place, STATE and ERR by their codes, reserved bits 0; a host write to it is ignored (R29, R30,
R166). -/
def Obligations.StatusWordLayout : Prop :=
  (∀ s : State,
    s.statusWord.extractLsb' 0 2 =
        (match s.session with | .idle => 0 | .armed => 1 | .hitPending => 2 | .coolingDown => 3) ∧
      s.statusWord.getLsbD 2 = s.cacheValid ∧ s.statusWord.getLsbD 3 = s.mbFull ∧ s.statusWord.getLsbD 4 = s.lhValid ∧
      s.statusWord.getLsbD 5 = s.txBusy ∧ s.statusWord.getLsbD 6 = s.txTrunc ∧ s.statusWord.getLsbD 7 = s.txFail ∧
      s.statusWord.getLsbD 8 = s.timingOk ∧ s.statusWord.getLsbD 9 = s.wmOk ∧ s.statusWord.getLsbD 10 = s.rxTrunc ∧
      s.statusWord.getLsbD 11 = s.rxDrop ∧ s.statusWord.getLsbD 12 = s.wlock ∧ s.statusWord.extractLsb' 13 3 = 0 ∧
      s.statusWord.extractLsb' 16 4 =
        (match s.err with
        | .ok => 0 | .configurationError => 1 | .encodeTruncation => 2 | .noStart => 3 | .malformedSymbol => 4
        | .shortFrame => 5 | .sessionBusy => 6 | .noFrame => 7 | .illegalCommand => 8 | .badState => 9 | .txBusy => 10) ∧
      s.statusWord.extractLsb' 20 12 = 0) ∧
    ∀ (s : State) (rest : List Input) (w : Word), s.inputs = .hostWrite 2 w :: rest →
      step s = .next (s.commandStart rest)

/-- A host write to a read-only register or to TX_BUF is ignored; one to an RWL register or to RX_BUF outside Idle is ignored and sets
WLOCK; both get OK (R25, R41, R74). -/
def Obligations.ReadOnlyAndLockedWritesStoreNothing : Prop :=
  ∀ (s : State) (rest : List Input) (a : BitVec 10) (w : Word), s.inputs = .hostWrite a w :: rest →
    (a.toNat ∈ [0, 2, 3, 7, 9, 10, 11] ∨ (0x100 ≤ a.toNat ∧ a.toNat < 0x100 + s.depth.toNat) →
      step s = .next (s.commandStart rest)) ∧
    (s.session ≠ .idle →
      a.toNat ∈ [8, 12, 13, 14, 15, 16, 17, 18, 19, 20] ∨ (0x200 ≤ a.toNat ∧ a.toNat < 0x200 + s.depth.toNat) →
      step s = .next { s.commandStart rest with wlock := true })

/-- A host write to a writable register stores the word by the register's field rule and changes nothing else: RW registers at any
time, RWL registers in Idle (R25, R44 to R48, R52 to R60, R74). -/
def Obligations.HostWriteStoresTheField : Prop :=
  ∀ (s : State) (rest : List Input) (a : BitVec 10) (w : Word) (u : State), s.inputs = .hostWrite a w :: rest →
    u = s.commandStart rest →
    (a = 4 → step s = .next { u with now := w }) ∧
    (a = 5 → step s = .next { u with sym := w }) ∧
    (a = 6 → step s = .next { u with frame := w.extractLsb' 0 16 }) ∧
    (s.session = .idle →
      (a = 8 → step s = .next { u with rxCount := BitVec.ofNat 8 (min (w.toNat % 256) s.depth.toNat) }) ∧
      (a = 12 → step s = .next { u with timStart := w }) ∧
      (a = 13 → step s = .next { u with timBits := w }) ∧
      (a = 14 → step s = .next { u with wmStart := w }) ∧
      (a = 15 → step s = .next { u with wmOne := w }) ∧
      (a = 16 → step s = .next { u with wmZero := w }) ∧
      (a = 17 → step s = .next { u with wmGap := w }) ∧
      (a = 18 → step s = .next { u with cooldown := w }) ∧
      (a = 19 → step s = .next { u with cap := BitVec.ofNat 8 (min (w.toNat % 256) s.depth.toNat) }) ∧
      (a = 20 → step s = .next { u with selfPid := w.extractLsb' 0 7, selfTid := w.extractLsb' 8 2 }))

/-- In Idle a host write to RX_BUF[i] stores the word there; every other word of RX_BUF, and all else, keeps its value (R62,
R74). -/
def Obligations.HostWritesOneRxBufWord : Prop :=
  ∀ (s : State) (rest : List Input) (i : Nat) (w : Word), s.session = .idle → i < s.depth.toNat → i < s.rxBuf.length →
    s.inputs = .hostWrite (BitVec.ofNat 10 (0x200 + i)) w :: rest →
    ∃ t, step s = .next t ∧ t = { s.commandStart rest with rxBuf := t.rxBuf } ∧ t.rxBuf.length = s.rxBuf.length ∧
      ∀ j : Nat, readWord t.rxBuf j = if j = i then w else readWord s.rxBuf j
end

