-- ==== Sys2Proof/Laws/State.lean ====
section
/-! SUPPORT. One lemma per field per update of the state, each true by definition, so that no later proof unfolds a record
update. -/

namespace Sys2Proof.Machine

section setErr

variable (s : State) (e : ErrCode)

@[simp] theorem State.setErr_depth : (s.setErr e).depth = s.depth := rfl
@[simp] theorem State.setErr_session : (s.setErr e).session = s.session := rfl
@[simp] theorem State.setErr_cacheValid : (s.setErr e).cacheValid = s.cacheValid := rfl
@[simp] theorem State.setErr_mbFull : (s.setErr e).mbFull = s.mbFull := rfl
@[simp] theorem State.setErr_lhValid : (s.setErr e).lhValid = s.lhValid := rfl
@[simp] theorem State.setErr_txBusy : (s.setErr e).txBusy = s.txBusy := rfl
@[simp] theorem State.setErr_txTrunc : (s.setErr e).txTrunc = s.txTrunc := rfl
@[simp] theorem State.setErr_txFail : (s.setErr e).txFail = s.txFail := rfl
@[simp] theorem State.setErr_rxTrunc : (s.setErr e).rxTrunc = s.rxTrunc := rfl
@[simp] theorem State.setErr_rxDrop : (s.setErr e).rxDrop = s.rxDrop := rfl
@[simp] theorem State.setErr_wlock : (s.setErr e).wlock = s.wlock := rfl
@[simp] theorem State.setErr_err : (s.setErr e).err = e := rfl
@[simp] theorem State.setErr_result : (s.setErr e).result = s.result := rfl
@[simp] theorem State.setErr_now : (s.setErr e).now = s.now := rfl
@[simp] theorem State.setErr_sym : (s.setErr e).sym = s.sym := rfl
@[simp] theorem State.setErr_frame : (s.setErr e).frame = s.frame := rfl
@[simp] theorem State.setErr_txCount : (s.setErr e).txCount = s.txCount := rfl
@[simp] theorem State.setErr_rxCount : (s.setErr e).rxCount = s.rxCount := rfl
@[simp] theorem State.setErr_rxFrame : (s.setErr e).rxFrame = s.rxFrame := rfl
@[simp] theorem State.setErr_hit : (s.setErr e).hit = s.hit := rfl
@[simp] theorem State.setErr_lastHit : (s.setErr e).lastHit = s.lastHit := rfl
@[simp] theorem State.setErr_timStart : (s.setErr e).timStart = s.timStart := rfl
@[simp] theorem State.setErr_timBits : (s.setErr e).timBits = s.timBits := rfl
@[simp] theorem State.setErr_wmStart : (s.setErr e).wmStart = s.wmStart := rfl
@[simp] theorem State.setErr_wmOne : (s.setErr e).wmOne = s.wmOne := rfl
@[simp] theorem State.setErr_wmZero : (s.setErr e).wmZero = s.wmZero := rfl
@[simp] theorem State.setErr_wmGap : (s.setErr e).wmGap = s.wmGap := rfl
@[simp] theorem State.setErr_cooldown : (s.setErr e).cooldown = s.cooldown := rfl
@[simp] theorem State.setErr_cap : (s.setErr e).cap = s.cap := rfl
@[simp] theorem State.setErr_selfPid : (s.setErr e).selfPid = s.selfPid := rfl
@[simp] theorem State.setErr_selfTid : (s.setErr e).selfTid = s.selfTid := rfl
@[simp] theorem State.setErr_txBuf : (s.setErr e).txBuf = s.txBuf := rfl
@[simp] theorem State.setErr_rxBuf : (s.setErr e).rxBuf = s.rxBuf := rfl
@[simp] theorem State.setErr_cache : (s.setErr e).cache = s.cache := rfl
@[simp] theorem State.setErr_draws : (s.setErr e).draws = s.draws := rfl
@[simp] theorem State.setErr_inputs : (s.setErr e).inputs = s.inputs := rfl
@[simp] theorem State.setErr_outputs : (s.setErr e).outputs = s.outputs := rfl

end setErr

section emitResume

variable (s : State)

@[simp] theorem State.emitResume_depth : (s.emitResume).depth = s.depth := rfl
@[simp] theorem State.emitResume_session : (s.emitResume).session = s.session := rfl
@[simp] theorem State.emitResume_cacheValid : (s.emitResume).cacheValid = s.cacheValid := rfl
@[simp] theorem State.emitResume_mbFull : (s.emitResume).mbFull = s.mbFull := rfl
@[simp] theorem State.emitResume_lhValid : (s.emitResume).lhValid = s.lhValid := rfl
@[simp] theorem State.emitResume_txBusy : (s.emitResume).txBusy = s.txBusy := rfl
@[simp] theorem State.emitResume_txTrunc : (s.emitResume).txTrunc = s.txTrunc := rfl
@[simp] theorem State.emitResume_txFail : (s.emitResume).txFail = s.txFail := rfl
@[simp] theorem State.emitResume_rxTrunc : (s.emitResume).rxTrunc = s.rxTrunc := rfl
@[simp] theorem State.emitResume_rxDrop : (s.emitResume).rxDrop = s.rxDrop := rfl
@[simp] theorem State.emitResume_wlock : (s.emitResume).wlock = s.wlock := rfl
@[simp] theorem State.emitResume_err : (s.emitResume).err = s.err := rfl
@[simp] theorem State.emitResume_result : (s.emitResume).result = s.result := rfl
@[simp] theorem State.emitResume_now : (s.emitResume).now = s.now := rfl
@[simp] theorem State.emitResume_sym : (s.emitResume).sym = s.sym := rfl
@[simp] theorem State.emitResume_frame : (s.emitResume).frame = s.frame := rfl
@[simp] theorem State.emitResume_txCount : (s.emitResume).txCount = s.txCount := rfl
@[simp] theorem State.emitResume_rxCount : (s.emitResume).rxCount = s.rxCount := rfl
@[simp] theorem State.emitResume_rxFrame : (s.emitResume).rxFrame = s.rxFrame := rfl
@[simp] theorem State.emitResume_hit : (s.emitResume).hit = s.hit := rfl
@[simp] theorem State.emitResume_lastHit : (s.emitResume).lastHit = s.lastHit := rfl
@[simp] theorem State.emitResume_timStart : (s.emitResume).timStart = s.timStart := rfl
@[simp] theorem State.emitResume_timBits : (s.emitResume).timBits = s.timBits := rfl
@[simp] theorem State.emitResume_wmStart : (s.emitResume).wmStart = s.wmStart := rfl
@[simp] theorem State.emitResume_wmOne : (s.emitResume).wmOne = s.wmOne := rfl
@[simp] theorem State.emitResume_wmZero : (s.emitResume).wmZero = s.wmZero := rfl
@[simp] theorem State.emitResume_wmGap : (s.emitResume).wmGap = s.wmGap := rfl
@[simp] theorem State.emitResume_cooldown : (s.emitResume).cooldown = s.cooldown := rfl
@[simp] theorem State.emitResume_cap : (s.emitResume).cap = s.cap := rfl
@[simp] theorem State.emitResume_selfPid : (s.emitResume).selfPid = s.selfPid := rfl
@[simp] theorem State.emitResume_selfTid : (s.emitResume).selfTid = s.selfTid := rfl
@[simp] theorem State.emitResume_txBuf : (s.emitResume).txBuf = s.txBuf := rfl
@[simp] theorem State.emitResume_rxBuf : (s.emitResume).rxBuf = s.rxBuf := rfl
@[simp] theorem State.emitResume_cache : (s.emitResume).cache = s.cache := rfl
@[simp] theorem State.emitResume_draws : (s.emitResume).draws = s.draws := rfl
@[simp] theorem State.emitResume_inputs : (s.emitResume).inputs = s.inputs := rfl
@[simp] theorem State.emitResume_outputs : (s.emitResume).outputs = { s.outputs with resume := true } := rfl

end emitResume

section emitTxGo

variable (s : State) (n : BitVec 8)

@[simp] theorem State.emitTxGo_depth : (s.emitTxGo n).depth = s.depth := rfl
@[simp] theorem State.emitTxGo_session : (s.emitTxGo n).session = s.session := rfl
@[simp] theorem State.emitTxGo_cacheValid : (s.emitTxGo n).cacheValid = s.cacheValid := rfl
@[simp] theorem State.emitTxGo_mbFull : (s.emitTxGo n).mbFull = s.mbFull := rfl
@[simp] theorem State.emitTxGo_lhValid : (s.emitTxGo n).lhValid = s.lhValid := rfl
@[simp] theorem State.emitTxGo_txBusy : (s.emitTxGo n).txBusy = s.txBusy := rfl
@[simp] theorem State.emitTxGo_txTrunc : (s.emitTxGo n).txTrunc = s.txTrunc := rfl
@[simp] theorem State.emitTxGo_txFail : (s.emitTxGo n).txFail = s.txFail := rfl
@[simp] theorem State.emitTxGo_rxTrunc : (s.emitTxGo n).rxTrunc = s.rxTrunc := rfl
@[simp] theorem State.emitTxGo_rxDrop : (s.emitTxGo n).rxDrop = s.rxDrop := rfl
@[simp] theorem State.emitTxGo_wlock : (s.emitTxGo n).wlock = s.wlock := rfl
@[simp] theorem State.emitTxGo_err : (s.emitTxGo n).err = s.err := rfl
@[simp] theorem State.emitTxGo_result : (s.emitTxGo n).result = s.result := rfl
@[simp] theorem State.emitTxGo_now : (s.emitTxGo n).now = s.now := rfl
@[simp] theorem State.emitTxGo_sym : (s.emitTxGo n).sym = s.sym := rfl
@[simp] theorem State.emitTxGo_frame : (s.emitTxGo n).frame = s.frame := rfl
@[simp] theorem State.emitTxGo_txCount : (s.emitTxGo n).txCount = s.txCount := rfl
@[simp] theorem State.emitTxGo_rxCount : (s.emitTxGo n).rxCount = s.rxCount := rfl
@[simp] theorem State.emitTxGo_rxFrame : (s.emitTxGo n).rxFrame = s.rxFrame := rfl
@[simp] theorem State.emitTxGo_hit : (s.emitTxGo n).hit = s.hit := rfl
@[simp] theorem State.emitTxGo_lastHit : (s.emitTxGo n).lastHit = s.lastHit := rfl
@[simp] theorem State.emitTxGo_timStart : (s.emitTxGo n).timStart = s.timStart := rfl
@[simp] theorem State.emitTxGo_timBits : (s.emitTxGo n).timBits = s.timBits := rfl
@[simp] theorem State.emitTxGo_wmStart : (s.emitTxGo n).wmStart = s.wmStart := rfl
@[simp] theorem State.emitTxGo_wmOne : (s.emitTxGo n).wmOne = s.wmOne := rfl
@[simp] theorem State.emitTxGo_wmZero : (s.emitTxGo n).wmZero = s.wmZero := rfl
@[simp] theorem State.emitTxGo_wmGap : (s.emitTxGo n).wmGap = s.wmGap := rfl
@[simp] theorem State.emitTxGo_cooldown : (s.emitTxGo n).cooldown = s.cooldown := rfl
@[simp] theorem State.emitTxGo_cap : (s.emitTxGo n).cap = s.cap := rfl
@[simp] theorem State.emitTxGo_selfPid : (s.emitTxGo n).selfPid = s.selfPid := rfl
@[simp] theorem State.emitTxGo_selfTid : (s.emitTxGo n).selfTid = s.selfTid := rfl
@[simp] theorem State.emitTxGo_txBuf : (s.emitTxGo n).txBuf = s.txBuf := rfl
@[simp] theorem State.emitTxGo_rxBuf : (s.emitTxGo n).rxBuf = s.rxBuf := rfl
@[simp] theorem State.emitTxGo_cache : (s.emitTxGo n).cache = s.cache := rfl
@[simp] theorem State.emitTxGo_draws : (s.emitTxGo n).draws = s.draws := rfl
@[simp] theorem State.emitTxGo_inputs : (s.emitTxGo n).inputs = s.inputs := rfl
@[simp] theorem State.emitTxGo_outputs : (s.emitTxGo n).outputs = { s.outputs with txGo := some n } := rfl

end emitTxGo

section reply

variable (s : State) (r : BusResponse)

@[simp] theorem State.reply_depth : (s.reply r).depth = s.depth := rfl
@[simp] theorem State.reply_session : (s.reply r).session = s.session := rfl
@[simp] theorem State.reply_cacheValid : (s.reply r).cacheValid = s.cacheValid := rfl
@[simp] theorem State.reply_mbFull : (s.reply r).mbFull = s.mbFull := rfl
@[simp] theorem State.reply_lhValid : (s.reply r).lhValid = s.lhValid := rfl
@[simp] theorem State.reply_txBusy : (s.reply r).txBusy = s.txBusy := rfl
@[simp] theorem State.reply_txTrunc : (s.reply r).txTrunc = s.txTrunc := rfl
@[simp] theorem State.reply_txFail : (s.reply r).txFail = s.txFail := rfl
@[simp] theorem State.reply_rxTrunc : (s.reply r).rxTrunc = s.rxTrunc := rfl
@[simp] theorem State.reply_rxDrop : (s.reply r).rxDrop = s.rxDrop := rfl
@[simp] theorem State.reply_wlock : (s.reply r).wlock = s.wlock := rfl
@[simp] theorem State.reply_err : (s.reply r).err = s.err := rfl
@[simp] theorem State.reply_result : (s.reply r).result = s.result := rfl
@[simp] theorem State.reply_now : (s.reply r).now = s.now := rfl
@[simp] theorem State.reply_sym : (s.reply r).sym = s.sym := rfl
@[simp] theorem State.reply_frame : (s.reply r).frame = s.frame := rfl
@[simp] theorem State.reply_txCount : (s.reply r).txCount = s.txCount := rfl
@[simp] theorem State.reply_rxCount : (s.reply r).rxCount = s.rxCount := rfl
@[simp] theorem State.reply_rxFrame : (s.reply r).rxFrame = s.rxFrame := rfl
@[simp] theorem State.reply_hit : (s.reply r).hit = s.hit := rfl
@[simp] theorem State.reply_lastHit : (s.reply r).lastHit = s.lastHit := rfl
@[simp] theorem State.reply_timStart : (s.reply r).timStart = s.timStart := rfl
@[simp] theorem State.reply_timBits : (s.reply r).timBits = s.timBits := rfl
@[simp] theorem State.reply_wmStart : (s.reply r).wmStart = s.wmStart := rfl
@[simp] theorem State.reply_wmOne : (s.reply r).wmOne = s.wmOne := rfl
@[simp] theorem State.reply_wmZero : (s.reply r).wmZero = s.wmZero := rfl
@[simp] theorem State.reply_wmGap : (s.reply r).wmGap = s.wmGap := rfl
@[simp] theorem State.reply_cooldown : (s.reply r).cooldown = s.cooldown := rfl
@[simp] theorem State.reply_cap : (s.reply r).cap = s.cap := rfl
@[simp] theorem State.reply_selfPid : (s.reply r).selfPid = s.selfPid := rfl
@[simp] theorem State.reply_selfTid : (s.reply r).selfTid = s.selfTid := rfl
@[simp] theorem State.reply_txBuf : (s.reply r).txBuf = s.txBuf := rfl
@[simp] theorem State.reply_rxBuf : (s.reply r).rxBuf = s.rxBuf := rfl
@[simp] theorem State.reply_cache : (s.reply r).cache = s.cache := rfl
@[simp] theorem State.reply_draws : (s.reply r).draws = s.draws := rfl
@[simp] theorem State.reply_inputs : (s.reply r).inputs = s.inputs := rfl
@[simp] theorem State.reply_outputs : (s.reply r).outputs = { s.outputs with bus := some r } := rfl

end reply

section replyData

variable (s : State) (r : BusResponse) (w : Word)

@[simp] theorem State.replyData_depth : (s.replyData r w).depth = s.depth := rfl
@[simp] theorem State.replyData_session : (s.replyData r w).session = s.session := rfl
@[simp] theorem State.replyData_cacheValid : (s.replyData r w).cacheValid = s.cacheValid := rfl
@[simp] theorem State.replyData_mbFull : (s.replyData r w).mbFull = s.mbFull := rfl
@[simp] theorem State.replyData_lhValid : (s.replyData r w).lhValid = s.lhValid := rfl
@[simp] theorem State.replyData_txBusy : (s.replyData r w).txBusy = s.txBusy := rfl
@[simp] theorem State.replyData_txTrunc : (s.replyData r w).txTrunc = s.txTrunc := rfl
@[simp] theorem State.replyData_txFail : (s.replyData r w).txFail = s.txFail := rfl
@[simp] theorem State.replyData_rxTrunc : (s.replyData r w).rxTrunc = s.rxTrunc := rfl
@[simp] theorem State.replyData_rxDrop : (s.replyData r w).rxDrop = s.rxDrop := rfl
@[simp] theorem State.replyData_wlock : (s.replyData r w).wlock = s.wlock := rfl
@[simp] theorem State.replyData_err : (s.replyData r w).err = s.err := rfl
@[simp] theorem State.replyData_result : (s.replyData r w).result = s.result := rfl
@[simp] theorem State.replyData_now : (s.replyData r w).now = s.now := rfl
@[simp] theorem State.replyData_sym : (s.replyData r w).sym = s.sym := rfl
@[simp] theorem State.replyData_frame : (s.replyData r w).frame = s.frame := rfl
@[simp] theorem State.replyData_txCount : (s.replyData r w).txCount = s.txCount := rfl
@[simp] theorem State.replyData_rxCount : (s.replyData r w).rxCount = s.rxCount := rfl
@[simp] theorem State.replyData_rxFrame : (s.replyData r w).rxFrame = s.rxFrame := rfl
@[simp] theorem State.replyData_hit : (s.replyData r w).hit = s.hit := rfl
@[simp] theorem State.replyData_lastHit : (s.replyData r w).lastHit = s.lastHit := rfl
@[simp] theorem State.replyData_timStart : (s.replyData r w).timStart = s.timStart := rfl
@[simp] theorem State.replyData_timBits : (s.replyData r w).timBits = s.timBits := rfl
@[simp] theorem State.replyData_wmStart : (s.replyData r w).wmStart = s.wmStart := rfl
@[simp] theorem State.replyData_wmOne : (s.replyData r w).wmOne = s.wmOne := rfl
@[simp] theorem State.replyData_wmZero : (s.replyData r w).wmZero = s.wmZero := rfl
@[simp] theorem State.replyData_wmGap : (s.replyData r w).wmGap = s.wmGap := rfl
@[simp] theorem State.replyData_cooldown : (s.replyData r w).cooldown = s.cooldown := rfl
@[simp] theorem State.replyData_cap : (s.replyData r w).cap = s.cap := rfl
@[simp] theorem State.replyData_selfPid : (s.replyData r w).selfPid = s.selfPid := rfl
@[simp] theorem State.replyData_selfTid : (s.replyData r w).selfTid = s.selfTid := rfl
@[simp] theorem State.replyData_txBuf : (s.replyData r w).txBuf = s.txBuf := rfl
@[simp] theorem State.replyData_rxBuf : (s.replyData r w).rxBuf = s.rxBuf := rfl
@[simp] theorem State.replyData_cache : (s.replyData r w).cache = s.cache := rfl
@[simp] theorem State.replyData_draws : (s.replyData r w).draws = s.draws := rfl
@[simp] theorem State.replyData_inputs : (s.replyData r w).inputs = s.inputs := rfl
@[simp] theorem State.replyData_outputs : (s.replyData r w).outputs = { s.outputs with bus := some r, readData := some w } := rfl

end replyData

section setResult

variable (s : State) (w : Word)

@[simp] theorem State.setResult_depth : (s.setResult w).depth = s.depth := rfl
@[simp] theorem State.setResult_session : (s.setResult w).session = s.session := rfl
@[simp] theorem State.setResult_cacheValid : (s.setResult w).cacheValid = s.cacheValid := rfl
@[simp] theorem State.setResult_mbFull : (s.setResult w).mbFull = s.mbFull := rfl
@[simp] theorem State.setResult_lhValid : (s.setResult w).lhValid = s.lhValid := rfl
@[simp] theorem State.setResult_txBusy : (s.setResult w).txBusy = s.txBusy := rfl
@[simp] theorem State.setResult_txTrunc : (s.setResult w).txTrunc = s.txTrunc := rfl
@[simp] theorem State.setResult_txFail : (s.setResult w).txFail = s.txFail := rfl
@[simp] theorem State.setResult_rxTrunc : (s.setResult w).rxTrunc = s.rxTrunc := rfl
@[simp] theorem State.setResult_rxDrop : (s.setResult w).rxDrop = s.rxDrop := rfl
@[simp] theorem State.setResult_wlock : (s.setResult w).wlock = s.wlock := rfl
@[simp] theorem State.setResult_err : (s.setResult w).err = s.err := rfl
@[simp] theorem State.setResult_result : (s.setResult w).result = w := rfl
@[simp] theorem State.setResult_now : (s.setResult w).now = s.now := rfl
@[simp] theorem State.setResult_sym : (s.setResult w).sym = s.sym := rfl
@[simp] theorem State.setResult_frame : (s.setResult w).frame = s.frame := rfl
@[simp] theorem State.setResult_txCount : (s.setResult w).txCount = s.txCount := rfl
@[simp] theorem State.setResult_rxCount : (s.setResult w).rxCount = s.rxCount := rfl
@[simp] theorem State.setResult_rxFrame : (s.setResult w).rxFrame = s.rxFrame := rfl
@[simp] theorem State.setResult_hit : (s.setResult w).hit = s.hit := rfl
@[simp] theorem State.setResult_lastHit : (s.setResult w).lastHit = s.lastHit := rfl
@[simp] theorem State.setResult_timStart : (s.setResult w).timStart = s.timStart := rfl
@[simp] theorem State.setResult_timBits : (s.setResult w).timBits = s.timBits := rfl
@[simp] theorem State.setResult_wmStart : (s.setResult w).wmStart = s.wmStart := rfl
@[simp] theorem State.setResult_wmOne : (s.setResult w).wmOne = s.wmOne := rfl
@[simp] theorem State.setResult_wmZero : (s.setResult w).wmZero = s.wmZero := rfl
@[simp] theorem State.setResult_wmGap : (s.setResult w).wmGap = s.wmGap := rfl
@[simp] theorem State.setResult_cooldown : (s.setResult w).cooldown = s.cooldown := rfl
@[simp] theorem State.setResult_cap : (s.setResult w).cap = s.cap := rfl
@[simp] theorem State.setResult_selfPid : (s.setResult w).selfPid = s.selfPid := rfl
@[simp] theorem State.setResult_selfTid : (s.setResult w).selfTid = s.selfTid := rfl
@[simp] theorem State.setResult_txBuf : (s.setResult w).txBuf = s.txBuf := rfl
@[simp] theorem State.setResult_rxBuf : (s.setResult w).rxBuf = s.rxBuf := rfl
@[simp] theorem State.setResult_cache : (s.setResult w).cache = s.cache := rfl
@[simp] theorem State.setResult_draws : (s.setResult w).draws = s.draws := rfl
@[simp] theorem State.setResult_inputs : (s.setResult w).inputs = s.inputs := rfl
@[simp] theorem State.setResult_outputs : (s.setResult w).outputs = s.outputs := rfl

end setResult

section setFrame

variable (s : State) (w : Word)

@[simp] theorem State.setFrame_depth : (s.setFrame w).depth = s.depth := rfl
@[simp] theorem State.setFrame_session : (s.setFrame w).session = s.session := rfl
@[simp] theorem State.setFrame_cacheValid : (s.setFrame w).cacheValid = s.cacheValid := rfl
@[simp] theorem State.setFrame_mbFull : (s.setFrame w).mbFull = s.mbFull := rfl
@[simp] theorem State.setFrame_lhValid : (s.setFrame w).lhValid = s.lhValid := rfl
@[simp] theorem State.setFrame_txBusy : (s.setFrame w).txBusy = s.txBusy := rfl
@[simp] theorem State.setFrame_txTrunc : (s.setFrame w).txTrunc = s.txTrunc := rfl
@[simp] theorem State.setFrame_txFail : (s.setFrame w).txFail = s.txFail := rfl
@[simp] theorem State.setFrame_rxTrunc : (s.setFrame w).rxTrunc = s.rxTrunc := rfl
@[simp] theorem State.setFrame_rxDrop : (s.setFrame w).rxDrop = s.rxDrop := rfl
@[simp] theorem State.setFrame_wlock : (s.setFrame w).wlock = s.wlock := rfl
@[simp] theorem State.setFrame_err : (s.setFrame w).err = s.err := rfl
@[simp] theorem State.setFrame_result : (s.setFrame w).result = w := rfl
@[simp] theorem State.setFrame_now : (s.setFrame w).now = s.now := rfl
@[simp] theorem State.setFrame_sym : (s.setFrame w).sym = s.sym := rfl
@[simp] theorem State.setFrame_frame : (s.setFrame w).frame = lowHalf w := rfl
@[simp] theorem State.setFrame_txCount : (s.setFrame w).txCount = s.txCount := rfl
@[simp] theorem State.setFrame_rxCount : (s.setFrame w).rxCount = s.rxCount := rfl
@[simp] theorem State.setFrame_rxFrame : (s.setFrame w).rxFrame = s.rxFrame := rfl
@[simp] theorem State.setFrame_hit : (s.setFrame w).hit = s.hit := rfl
@[simp] theorem State.setFrame_lastHit : (s.setFrame w).lastHit = s.lastHit := rfl
@[simp] theorem State.setFrame_timStart : (s.setFrame w).timStart = s.timStart := rfl
@[simp] theorem State.setFrame_timBits : (s.setFrame w).timBits = s.timBits := rfl
@[simp] theorem State.setFrame_wmStart : (s.setFrame w).wmStart = s.wmStart := rfl
@[simp] theorem State.setFrame_wmOne : (s.setFrame w).wmOne = s.wmOne := rfl
@[simp] theorem State.setFrame_wmZero : (s.setFrame w).wmZero = s.wmZero := rfl
@[simp] theorem State.setFrame_wmGap : (s.setFrame w).wmGap = s.wmGap := rfl
@[simp] theorem State.setFrame_cooldown : (s.setFrame w).cooldown = s.cooldown := rfl
@[simp] theorem State.setFrame_cap : (s.setFrame w).cap = s.cap := rfl
@[simp] theorem State.setFrame_selfPid : (s.setFrame w).selfPid = s.selfPid := rfl
@[simp] theorem State.setFrame_selfTid : (s.setFrame w).selfTid = s.selfTid := rfl
@[simp] theorem State.setFrame_txBuf : (s.setFrame w).txBuf = s.txBuf := rfl
@[simp] theorem State.setFrame_rxBuf : (s.setFrame w).rxBuf = s.rxBuf := rfl
@[simp] theorem State.setFrame_cache : (s.setFrame w).cache = s.cache := rfl
@[simp] theorem State.setFrame_draws : (s.setFrame w).draws = s.draws := rfl
@[simp] theorem State.setFrame_inputs : (s.setFrame w).inputs = s.inputs := rfl
@[simp] theorem State.setFrame_outputs : (s.setFrame w).outputs = s.outputs := rfl

end setFrame

section leaveCooldown

variable (s : State)

@[simp] theorem State.leaveCooldown_depth : (s.leaveCooldown).depth = s.depth := rfl
@[simp] theorem State.leaveCooldown_session : (s.leaveCooldown).session = if s.cacheValid then .hitPending else .armed := rfl
@[simp] theorem State.leaveCooldown_cacheValid : (s.leaveCooldown).cacheValid = s.cacheValid := rfl
@[simp] theorem State.leaveCooldown_mbFull : (s.leaveCooldown).mbFull = s.mbFull := rfl
@[simp] theorem State.leaveCooldown_lhValid : (s.leaveCooldown).lhValid = s.lhValid := rfl
@[simp] theorem State.leaveCooldown_txBusy : (s.leaveCooldown).txBusy = s.txBusy := rfl
@[simp] theorem State.leaveCooldown_txTrunc : (s.leaveCooldown).txTrunc = s.txTrunc := rfl
@[simp] theorem State.leaveCooldown_txFail : (s.leaveCooldown).txFail = s.txFail := rfl
@[simp] theorem State.leaveCooldown_rxTrunc : (s.leaveCooldown).rxTrunc = s.rxTrunc := rfl
@[simp] theorem State.leaveCooldown_rxDrop : (s.leaveCooldown).rxDrop = s.rxDrop := rfl
@[simp] theorem State.leaveCooldown_wlock : (s.leaveCooldown).wlock = s.wlock := rfl
@[simp] theorem State.leaveCooldown_err : (s.leaveCooldown).err = s.err := rfl
@[simp] theorem State.leaveCooldown_result : (s.leaveCooldown).result = s.result := rfl
@[simp] theorem State.leaveCooldown_now : (s.leaveCooldown).now = s.now := rfl
@[simp] theorem State.leaveCooldown_sym : (s.leaveCooldown).sym = s.sym := rfl
@[simp] theorem State.leaveCooldown_frame : (s.leaveCooldown).frame = s.frame := rfl
@[simp] theorem State.leaveCooldown_txCount : (s.leaveCooldown).txCount = s.txCount := rfl
@[simp] theorem State.leaveCooldown_rxCount : (s.leaveCooldown).rxCount = s.rxCount := rfl
@[simp] theorem State.leaveCooldown_rxFrame : (s.leaveCooldown).rxFrame = s.rxFrame := rfl
@[simp] theorem State.leaveCooldown_hit : (s.leaveCooldown).hit = s.hit := rfl
@[simp] theorem State.leaveCooldown_lastHit : (s.leaveCooldown).lastHit = s.lastHit := rfl
@[simp] theorem State.leaveCooldown_timStart : (s.leaveCooldown).timStart = s.timStart := rfl
@[simp] theorem State.leaveCooldown_timBits : (s.leaveCooldown).timBits = s.timBits := rfl
@[simp] theorem State.leaveCooldown_wmStart : (s.leaveCooldown).wmStart = s.wmStart := rfl
@[simp] theorem State.leaveCooldown_wmOne : (s.leaveCooldown).wmOne = s.wmOne := rfl
@[simp] theorem State.leaveCooldown_wmZero : (s.leaveCooldown).wmZero = s.wmZero := rfl
@[simp] theorem State.leaveCooldown_wmGap : (s.leaveCooldown).wmGap = s.wmGap := rfl
@[simp] theorem State.leaveCooldown_cooldown : (s.leaveCooldown).cooldown = s.cooldown := rfl
@[simp] theorem State.leaveCooldown_cap : (s.leaveCooldown).cap = s.cap := rfl
@[simp] theorem State.leaveCooldown_selfPid : (s.leaveCooldown).selfPid = s.selfPid := rfl
@[simp] theorem State.leaveCooldown_selfTid : (s.leaveCooldown).selfTid = s.selfTid := rfl
@[simp] theorem State.leaveCooldown_txBuf : (s.leaveCooldown).txBuf = s.txBuf := rfl
@[simp] theorem State.leaveCooldown_rxBuf : (s.leaveCooldown).rxBuf = s.rxBuf := rfl
@[simp] theorem State.leaveCooldown_cache : (s.leaveCooldown).cache = s.cache := rfl
@[simp] theorem State.leaveCooldown_draws : (s.leaveCooldown).draws = s.draws := rfl
@[simp] theorem State.leaveCooldown_inputs : (s.leaveCooldown).inputs = s.inputs := rfl
@[simp] theorem State.leaveCooldown_outputs : (s.leaveCooldown).outputs = { s.outputs with resume := true } := rfl

end leaveCooldown

section beginStep

variable (s : State) (rest : List Input)

@[simp] theorem State.beginStep_depth : (s.beginStep rest).depth = s.depth := rfl
@[simp] theorem State.beginStep_session : (s.beginStep rest).session = s.session := rfl
@[simp] theorem State.beginStep_cacheValid : (s.beginStep rest).cacheValid = s.cacheValid := rfl
@[simp] theorem State.beginStep_mbFull : (s.beginStep rest).mbFull = s.mbFull := rfl
@[simp] theorem State.beginStep_lhValid : (s.beginStep rest).lhValid = s.lhValid := rfl
@[simp] theorem State.beginStep_txBusy : (s.beginStep rest).txBusy = s.txBusy := rfl
@[simp] theorem State.beginStep_txTrunc : (s.beginStep rest).txTrunc = s.txTrunc := rfl
@[simp] theorem State.beginStep_txFail : (s.beginStep rest).txFail = s.txFail := rfl
@[simp] theorem State.beginStep_rxTrunc : (s.beginStep rest).rxTrunc = s.rxTrunc := rfl
@[simp] theorem State.beginStep_rxDrop : (s.beginStep rest).rxDrop = s.rxDrop := rfl
@[simp] theorem State.beginStep_wlock : (s.beginStep rest).wlock = s.wlock := rfl
@[simp] theorem State.beginStep_err : (s.beginStep rest).err = s.err := rfl
@[simp] theorem State.beginStep_result : (s.beginStep rest).result = s.result := rfl
@[simp] theorem State.beginStep_now : (s.beginStep rest).now = s.now := rfl
@[simp] theorem State.beginStep_sym : (s.beginStep rest).sym = s.sym := rfl
@[simp] theorem State.beginStep_frame : (s.beginStep rest).frame = s.frame := rfl
@[simp] theorem State.beginStep_txCount : (s.beginStep rest).txCount = s.txCount := rfl
@[simp] theorem State.beginStep_rxCount : (s.beginStep rest).rxCount = s.rxCount := rfl
@[simp] theorem State.beginStep_rxFrame : (s.beginStep rest).rxFrame = s.rxFrame := rfl
@[simp] theorem State.beginStep_hit : (s.beginStep rest).hit = s.hit := rfl
@[simp] theorem State.beginStep_lastHit : (s.beginStep rest).lastHit = s.lastHit := rfl
@[simp] theorem State.beginStep_timStart : (s.beginStep rest).timStart = s.timStart := rfl
@[simp] theorem State.beginStep_timBits : (s.beginStep rest).timBits = s.timBits := rfl
@[simp] theorem State.beginStep_wmStart : (s.beginStep rest).wmStart = s.wmStart := rfl
@[simp] theorem State.beginStep_wmOne : (s.beginStep rest).wmOne = s.wmOne := rfl
@[simp] theorem State.beginStep_wmZero : (s.beginStep rest).wmZero = s.wmZero := rfl
@[simp] theorem State.beginStep_wmGap : (s.beginStep rest).wmGap = s.wmGap := rfl
@[simp] theorem State.beginStep_cooldown : (s.beginStep rest).cooldown = s.cooldown := rfl
@[simp] theorem State.beginStep_cap : (s.beginStep rest).cap = s.cap := rfl
@[simp] theorem State.beginStep_selfPid : (s.beginStep rest).selfPid = s.selfPid := rfl
@[simp] theorem State.beginStep_selfTid : (s.beginStep rest).selfTid = s.selfTid := rfl
@[simp] theorem State.beginStep_txBuf : (s.beginStep rest).txBuf = s.txBuf := rfl
@[simp] theorem State.beginStep_rxBuf : (s.beginStep rest).rxBuf = s.rxBuf := rfl
@[simp] theorem State.beginStep_cache : (s.beginStep rest).cache = s.cache := rfl
@[simp] theorem State.beginStep_draws : (s.beginStep rest).draws = s.draws := rfl
@[simp] theorem State.beginStep_inputs : (s.beginStep rest).inputs = rest := rfl
@[simp] theorem State.beginStep_outputs : (s.beginStep rest).outputs = Outputs.quiet := rfl

end beginStep

section commandStart

variable (s : State) (rest : List Input)

@[simp] theorem State.commandStart_depth : (s.commandStart rest).depth = s.depth := rfl
@[simp] theorem State.commandStart_session : (s.commandStart rest).session = s.session := rfl
@[simp] theorem State.commandStart_cacheValid : (s.commandStart rest).cacheValid = s.cacheValid := rfl
@[simp] theorem State.commandStart_mbFull : (s.commandStart rest).mbFull = s.mbFull := rfl
@[simp] theorem State.commandStart_lhValid : (s.commandStart rest).lhValid = s.lhValid := rfl
@[simp] theorem State.commandStart_txBusy : (s.commandStart rest).txBusy = s.txBusy := rfl
@[simp] theorem State.commandStart_txTrunc : (s.commandStart rest).txTrunc = s.txTrunc := rfl
@[simp] theorem State.commandStart_txFail : (s.commandStart rest).txFail = s.txFail := rfl
@[simp] theorem State.commandStart_rxTrunc : (s.commandStart rest).rxTrunc = s.rxTrunc := rfl
@[simp] theorem State.commandStart_rxDrop : (s.commandStart rest).rxDrop = s.rxDrop := rfl
@[simp] theorem State.commandStart_wlock : (s.commandStart rest).wlock = s.wlock := rfl
@[simp] theorem State.commandStart_err : (s.commandStart rest).err = s.err := rfl
@[simp] theorem State.commandStart_result : (s.commandStart rest).result = s.result := rfl
@[simp] theorem State.commandStart_now : (s.commandStart rest).now = s.now := rfl
@[simp] theorem State.commandStart_sym : (s.commandStart rest).sym = s.sym := rfl
@[simp] theorem State.commandStart_frame : (s.commandStart rest).frame = s.frame := rfl
@[simp] theorem State.commandStart_txCount : (s.commandStart rest).txCount = s.txCount := rfl
@[simp] theorem State.commandStart_rxCount : (s.commandStart rest).rxCount = s.rxCount := rfl
@[simp] theorem State.commandStart_rxFrame : (s.commandStart rest).rxFrame = s.rxFrame := rfl
@[simp] theorem State.commandStart_hit : (s.commandStart rest).hit = s.hit := rfl
@[simp] theorem State.commandStart_lastHit : (s.commandStart rest).lastHit = s.lastHit := rfl
@[simp] theorem State.commandStart_timStart : (s.commandStart rest).timStart = s.timStart := rfl
@[simp] theorem State.commandStart_timBits : (s.commandStart rest).timBits = s.timBits := rfl
@[simp] theorem State.commandStart_wmStart : (s.commandStart rest).wmStart = s.wmStart := rfl
@[simp] theorem State.commandStart_wmOne : (s.commandStart rest).wmOne = s.wmOne := rfl
@[simp] theorem State.commandStart_wmZero : (s.commandStart rest).wmZero = s.wmZero := rfl
@[simp] theorem State.commandStart_wmGap : (s.commandStart rest).wmGap = s.wmGap := rfl
@[simp] theorem State.commandStart_cooldown : (s.commandStart rest).cooldown = s.cooldown := rfl
@[simp] theorem State.commandStart_cap : (s.commandStart rest).cap = s.cap := rfl
@[simp] theorem State.commandStart_selfPid : (s.commandStart rest).selfPid = s.selfPid := rfl
@[simp] theorem State.commandStart_selfTid : (s.commandStart rest).selfTid = s.selfTid := rfl
@[simp] theorem State.commandStart_txBuf : (s.commandStart rest).txBuf = s.txBuf := rfl
@[simp] theorem State.commandStart_rxBuf : (s.commandStart rest).rxBuf = s.rxBuf := rfl
@[simp] theorem State.commandStart_cache : (s.commandStart rest).cache = s.cache := rfl
@[simp] theorem State.commandStart_draws : (s.commandStart rest).draws = s.draws := rfl
@[simp] theorem State.commandStart_inputs : (s.commandStart rest).inputs = rest := rfl
@[simp] theorem State.commandStart_outputs : (s.commandStart rest).outputs = { Outputs.quiet with bus := some .ok } := rfl

end commandStart

end Sys2Proof.Machine
end

