-- ==== Sys2Proof/Laws/Ops.lean ====
section
/-! SUPPORT. For each shared operation, what it can do, said once. -/

namespace Sys2Proof.Machine

/-! ### Ending a command -/

theorem finish_next (s : State) (e : ErrCode) : finish s e = .next (s.setErr e) := rfl

/-- What a command that ended with `finish` left behind. -/
theorem finish_eq_next_iff (s t : State) (e : ErrCode) : finish s e = .next t ↔ t = s.setErr e := by
  simp [finish, eq_comm]

/-! ### Pulse buffers -/

@[simp] theorem writeWord_length (buf : List Word) (i : Nat) (w : Word) : (writeWord buf i w).length = buf.length := by
  simp [writeWord]

@[simp] theorem writePrefix_length (ws buf : List Word) : (writePrefix ws buf).length = buf.length := by
  induction ws generalizing buf with
  | nil => rfl
  | cons w ws ih => cases buf <;> simp [writePrefix, ih]

theorem readWord_eq_getElem (buf : List Word) (i : Nat) (h : i < buf.length) : readWord buf i = buf[i] := by
  simp [readWord, h]

theorem readWord_beyond (buf : List Word) (i : Nat) (h : buf.length ≤ i) : readWord buf i = Config.absentWord i := by
  simp [readWord, h]

theorem readWord_writeWord_same (buf : List Word) (i : Nat) (w : Word) (h : i < buf.length) :
    readWord (writeWord buf i w) i = w := by
  simp [readWord, writeWord, h]

theorem readWord_writeWord_other (buf : List Word) (i j : Nat) (w : Word) (h : i ≠ j) :
    readWord (writeWord buf i w) j = readWord buf j := by
  simp [readWord, writeWord, List.getD_eq_getElem?_getD, List.getElem?_set_ne h]

/-- A prefix write puts its words at the front and leaves every other word alone. -/
theorem readWord_writePrefix (ws buf : List Word) (j : Nat) (h : ws.length ≤ buf.length) :
    readWord (writePrefix ws buf) j = if j < ws.length then readWord ws j else readWord buf j := by
  have key : ∀ (ws buf : List Word) (j : Nat) (d : Word), ws.length ≤ buf.length →
      (writePrefix ws buf).getD j d = if j < ws.length then ws.getD j d else buf.getD j d := by
    intro ws
    induction ws with
    | nil => intros; simp [writePrefix]
    | cons w ws ih =>
      intro buf j d h
      cases buf with
      | nil => simp at h
      | cons b buf =>
        cases j with
        | zero => simp [writePrefix]
        | succ j => simpa [writePrefix] using ih buf j d (by simpa using h)
  exact key ws buf j _ h

@[simp] theorem receivedSymbols_length (s : State) : s.receivedSymbols.length = s.rxCount.toNat := by
  simp [State.receivedSymbols]

theorem receivedSymbols_getElem (s : State) (i : Nat) (h : i < s.receivedSymbols.length) :
    s.receivedSymbols[i] = readWord s.rxBuf i := by
  simp [State.receivedSymbols]

/-! ### The memory keeps its form -/

theorem Memory.wf_iff (s : State) :
    Memory.wf s = true ↔ s.txBuf.length = s.depth.toNat ∧ s.rxBuf.length = s.depth.toNat := by
  simp [Memory.wf]

@[simp] theorem resetBuffer_length (draw : Nat) (b : Buffer) (n : Nat) : (resetBuffer draw b n).length = n := by
  simp [resetBuffer]

theorem powerUp_keeps_memory_wf (depth : BitVec 8) (draw : Nat) : Memory.wf (State.powerUp depth draw) = true := by
  simp [Memory.wf, State.powerUp]

theorem reset_memory_wf : Memory.wf State.reset = true := powerUp_keeps_memory_wf _ _

theorem resetEvent_keeps_memory_wf (s : State) : Memory.wf (resetEvent s) = true := by
  simp [Memory.wf, resetEvent, State.powerUp]

theorem encodeFrame_keeps_memory_wf (s : State) (h : Memory.wf s = true) : Memory.wf s.encodeFrame = true := by
  simpa [Memory.wf, State.encodeFrame] using h

theorem rxBatch_keeps_memory_wf (batch : List Word) (s : State) (h : Memory.wf s = true) :
    Memory.wf (rxBatch batch s) = true := by
  unfold rxBatch dropBatch acceptBatch
  split <;> simpa [Memory.wf] using h

theorem storeReg_keeps_memory_wf (s : State) (w : Word) (r : Reg) (h : Memory.wf s = true) :
    Memory.wf (storeReg s w r) = true := by
  cases r <;> exact h

theorem hostStore_keeps_memory_wf (a : BitVec 10) (w : Word) (s : State) (h : Memory.wf s = true) :
    Memory.wf (hostStore a w s) = true := by
  suffices Memory.wf (storeTarget s w (target s.depth a)) = true from this
  unfold storeTarget unlessLocked
  split
  · exact h
  · exact h
  · split
    · simpa [Memory.wf] using h
    · exact h
  · split
    · exact h
    · exact h
    · exact storeReg_keeps_memory_wf s w _ h
    · split
      · exact storeReg_keeps_memory_wf s w _ h
      · exact h

/-! ### The decoder -/

/-- A decode attempt fails with one of three codes (60_exceptions.md R166). -/
theorem collectBits_error (b : Bands) (l : List Word) (k : Nat) (f : Word) (e : ErrCode)
    (h : collectBits b l k f = .error e) : e = .malformedSymbol ∨ e = .shortFrame := by
  induction l generalizing k f with
  | nil =>
    unfold collectBits at h
    split at h
    · exact .inr (by simpa using h.symm)
    · cases h
  | cons s rest ih =>
    unfold collectBits at h
    split at h
    · exact ih _ _ h
    · exact ih _ _ h
    all_goals exact .inl (by simpa using h.symm)

theorem decodeBatch_error (b : Bands) (l : List Word) (e : ErrCode) (h : decodeBatch b l = .error e) :
    e = .noStart ∨ e = .malformedSymbol ∨ e = .shortFrame := by
  cases l with
  | nil => exact .inl (by simpa [decodeBatch] using h.symm)
  | cons s rest =>
    simp only [decodeBatch] at h
    split at h
    · exact .inr (collectBits_error _ _ _ _ _ h)
    · exact .inl (by simpa using h.symm)

/-- A decode takes at most the first 33 symbols (R132, R134). -/
theorem decodeBatch_take (b : Bands) (l : List Word) : decodeBatch b (l.take 33) = decodeBatch b l := by
  cases l with
  | nil => rfl
  | cons first rest => simp [decodeBatch, Config.maxDataBits, List.take_take]

/-- What a decode of the received symbols depends on (42_classifier_decoder.md R141). -/
theorem decodeReceived_congr (s t : State) (hb : s.bands = t.bands) (hn : s.rxCount = t.rxCount)
    (hw : ∀ j, j < min s.rxCount.toNat 33 → readWord s.rxBuf j = readWord t.rxBuf j) :
    s.decodeReceived = t.decodeReceived := by
  unfold State.decodeReceived
  rw [hb, ← decodeBatch_take _ s.receivedSymbols, ← decodeBatch_take _ t.receivedSymbols]
  congr 1
  apply List.ext_getElem
  · simp [hn]
  · intro i h1 _
    have hi : i < min s.rxCount.toNat 33 := by simpa [Nat.min_comm] using h1
    simpa [State.receivedSymbols] using hw i hi

/-! ### Comparisons -/

/-- The cooldown is over when the modular difference reaches COOLDOWN (R146). -/
theorem cooldownOver_iff (s : State) (now : Word) : s.cooldownOver now = true ↔ s.cooldown ≤ now - s.lastHit := by
  simp only [State.cooldownOver, BitVec.ule_iff_le]

/-- Both ends of a band are inside it (R128). -/
theorem inBand_iff (band : Word) (d : Duration) : inBand band d = true ↔ lowHalf band ≤ d ∧ d ≤ highHalf band := by
  simp only [inBand, Bool.and_eq_true, BitVec.ule_iff_le]

theorem bandOrdered_iff (band : Word) : bandOrdered band = true ↔ lowHalf band ≤ highHalf band := by
  simp only [bandOrdered, BitVec.ule_iff_le]

theorem bandAbove_iff (upper lower : Word) : bandAbove upper lower = true ↔ highHalf lower < lowHalf upper := by
  simp only [bandAbove, BitVec.ult_iff_lt]

/-! ### The session -/

/-- expire leaves an expired cooldown, and does nothing else. -/
theorem expire_cases (now : Word) (s : State) :
    (s.session = .coolingDown ∧ s.cooldown ≤ now - s.lastHit ∧ expire now s = s.leaveCooldown) ∨
      (¬(s.session = .coolingDown ∧ s.cooldown ≤ now - s.lastHit) ∧ expire now s = s) := by
  unfold expire
  rw [← cooldownOver_iff]
  split
  · next h => exact .inl ⟨h.1, h.2, rfl⟩
  · next h => exact .inr ⟨h, rfl⟩

theorem expire_of_not_cooling (now : Word) (s : State) (h : s.session ≠ .coolingDown) : expire now s = s :=
  if_neg fun c => h c.1

theorem expire_inside (now : Word) (s : State) (h : now - s.lastHit < s.cooldown) : expire now s = s :=
  if_neg fun c => BitVec.not_le.mpr h ((cooldownOver_iff s now).mp c.2)

theorem expire_over (now : Word) (s : State) (hs : s.session = .coolingDown) (h : s.cooldown ≤ now - s.lastHit) :
    expire now s = s.leaveCooldown :=
  if_pos ⟨hs, (cooldownOver_iff s now).mpr h⟩

/-- Leaving the cooldown does not touch what a decode reads. -/
@[simp] theorem leaveCooldown_decodeReceived (s : State) : s.leaveCooldown.decodeReceived = s.decodeReceived := rfl

theorem cacheHit_cases (f : Word) (s : State) :
    (s.cacheValid = true ∧ cacheHit f s = { s with rxFrame := f }) ∨
      (s.cacheValid = false ∧ cacheHit f s =
        { s with
          rxFrame := f
          cache := decodedFrame f
          cacheValid := true
          session := if s.session = .armed then .hitPending else s.session }) := by
  unfold cacheHit
  cases s.cacheValid <;> simp

theorem resumeIfArmed_cases (s : State) :
    (s.session = .armed ∧ resumeIfArmed s = s.emitResume) ∨ (s.session ≠ .armed ∧ resumeIfArmed s = s) := by
  unfold resumeIfArmed
  split <;> simp_all

/-- drain empties a full mailbox with one decode, and does nothing to an empty one. -/
theorem drain_cases (s : State) :
    (s.mbFull = false ∧ drain s = (s, none)) ∨
      (s.mbFull = true ∧ ∃ f, s.decodeReceived = .frame f ∧
        drain s = (resumeIfArmed (cacheHit f { s with mbFull := false }), none)) ∨
      (s.mbFull = true ∧ ∃ e, s.decodeReceived = .error e ∧
        drain s = (resumeIfArmed { s with mbFull := false, rxFrame := 0 }, some e)) := by
  unfold drain
  cases hm : s.mbFull with
  | false => simp
  | true => cases hd : s.decodeReceived <;> simp

/-- deliver hands out the cached hit in HitPending, and clears HIT elsewhere. -/
theorem deliver_cases (now : Word) (s : State) :
    (s.session = .hitPending ∧ deliver now s =
        ({ s with hit := s.cache, cacheValid := false, lastHit := now, lhValid := true, session := .coolingDown }, true)) ∨
      (s.session ≠ .hitPending ∧ deliver now s = ({ s with hit := 0 }, false)) := by
  unfold deliver
  split <;> simp_all

/-! ### The collaborators and the host port -/

theorem rxBatch_cases (batch : List Word) (s : State) :
    ((s.session = .idle ∨ s.mbFull = true) ∧ rxBatch batch s = { s with rxDrop := true }) ∨
      (s.session ≠ .idle ∧ s.mbFull = false ∧ rxBatch batch s = acceptBatch batch s) := by
  unfold rxBatch dropBatch
  split <;> simp_all

theorem txDone_cases (success : Bool) (s : State) :
    (s.txBusy = false ∧ txDone success s = s) ∨
      (s.txBusy = true ∧ txDone success s = { s with txBusy := false, txFail := !success }) := by
  unfold txDone
  cases s.txBusy <;> simp

theorem unlessLocked_cases (s stored : State) :
    (s.session = .idle ∧ unlessLocked s stored = stored) ∨
      (s.session ≠ .idle ∧ unlessLocked s stored = { s with wlock := true }) := by
  unfold unlessLocked
  split <;> simp_all

/-- A step takes the first input, or finds none. -/
theorem nextStep_cases (s : State) :
    (s.inputs = [] ∧ step s = .next (s.beginStep [])) ∨
      ∃ e rest, s.inputs = e :: rest ∧ step s = runInput e (s.beginStep rest) := by
  unfold step nextStep
  cases h : s.inputs with
  | nil => exact .inl ⟨rfl, rfl⟩
  | cons e rest => exact .inr ⟨e, rest, rfl, rfl⟩

end Sys2Proof.Machine
end

