-- ==== Sys2Proof/Laws/PerInstr.lean ====
section
/-! SUPPORT. A family of per-command laws: the command's own word is hit by the command's own row (30_encoding.md R101). -/

namespace Sys2Proof.Laws.OwnRowHits

/-- The encoding of the command has the row's match value under the row's mask, and the command is well-formed (R89, R101). -/
def Statement (i : Instr) : Prop := i.wf = true ∧ i.row.hits (encode i) = true

theorem nop : Statement .nop := ⟨by decide, by decide⟩
theorem quant (d : BitVec 8) : Statement (.quant d) := ⟨by revert d; decide, by revert d; decide⟩
theorem dequant (c : BitVec 4) : Statement (.dequant c) := ⟨by revert c; decide, by revert c; decide⟩

theorem pack_wf (p : BitVec 7) (t : BitVec 2) (c : BitVec 4) : (Instr.pack p t c).wf = true := by
  simp only [Instr.wf, Instr.operandBits, Instr.row, beq_iff_eq]
  apply BitVec.eq_of_getLsbD_eq
  intro i hi
  interval_cases i <;> simp

theorem pack_hits (p : BitVec 7) (t : BitVec 2) (c : BitVec 4) :
    (Instr.pack p t c).row.hits (encode (.pack p t c)) = true := by
  simp only [OpcodeRow.hits, encode, Instr.row, beq_iff_eq]
  apply BitVec.eq_of_getLsbD_eq
  intro i hi
  simp only [BitVec.getLsbD_and, BitVec.getLsbD_append]
  interval_cases i <;> simp

theorem pack (p : BitVec 7) (t : BitVec 2) (c : BitVec 4) : Statement (.pack p t c) := ⟨pack_wf p t c, pack_hits p t c⟩
theorem unpack : Statement .unpack := ⟨by decide, by decide⟩
theorem packs (d : BitVec 8) : Statement (.packs d) := ⟨by revert d; decide, by revert d; decide⟩
theorem encode : Statement .encode := ⟨by decide, by decide⟩
theorem send : Statement .send := ⟨by decide, by decide⟩
theorem classify : Statement .classify := ⟨by decide, by decide⟩
theorem decode : Statement .decode := ⟨by decide, by decide⟩
theorem arm : Statement .arm := ⟨by decide, by decide⟩
theorem tick : Statement .tick := ⟨by decide, by decide⟩
theorem poll : Statement .poll := ⟨by decide, by decide⟩
theorem cancel : Statement .cancel := ⟨by decide, by decide⟩
theorem teardown : Statement .teardown := ⟨by decide, by decide⟩
theorem clrerr : Statement .clrerr := ⟨by decide, by decide⟩

end Sys2Proof.Laws.OwnRowHits
end

