-- ==== Sys2Proof/Tests/Slice0.lean ====
section
/-! SUPPORT. Tests of one step each, with expected values from the tables of 95_test_vectors.md, and for every statement with
hypotheses a witness: a concrete state and operands that meet them together. -/

open Sys2Proof Sys2Proof.Machine

namespace Sys2Proof.Tests

/-! ### Helpers -/

/-- The reset state with known words in the buffers, which reset leaves free (log 5). -/
def base : State := { State.reset with txBuf := List.replicate 64 0x11111111#32, rxBuf := List.replicate 64 0x22222222#32 }

/-- The bands of 95_test_vectors.md §2. -/
def banded : State :=
  { base with wmStart := 0x0AC807F8#32, wmOne := 0x056403FC#32, wmZero := 0x02B201FE#32, wmGap := 0x012C0064#32 }

/-- The symbols S, Z and O of 95_test_vectors.md. -/
def symS : Word := 0x02580960#32
def symZ : Word := 0x02580258#32
def symO : Word := 0x025804B0#32

/-- The 33 symbols with O at the given indices: the tables give enc(F) by its indices of O. -/
def batch (ones : List Nat) : List Word := symS :: (List.range 32).map (fun k => if k + 1 ∈ ones then symO else symZ)

/-- enc(0x0001) and enc(0xA405), by the table of §3.2. -/
def batch1 : List Word := batch [8]
def batchA : List Word := batch [6, 8, 9, 11, 14]

/-- RX_BUF begins with the words of `l`, and RX_COUNT is n. -/
def received (s : State) (l : List Word) (n : BitVec 8) : State :=
  { s with rxBuf := l ++ List.replicate (64 - l.length) 0x22222222#32, rxCount := n }

def armed : State := { banded with session := .armed }

/-- In the cooldown that began at time 0, with NOW = 500. -/
def cooling : State := { banded with session := .coolingDown, lhValid := true, now := 500 }

/-- The mailbox holds the batch. -/
def mail (s : State) (l : List Word) : State := { received s l 33 with mbFull := true }

/-- A hit is in the cache. -/
def cached (s : State) : State := { s with cacheValid := true, cache := 0x80010001#32 }

/-- The next input. -/
def given (s : State) (e : Input) : State := { s with inputs := [e] }

/-- Does the outcome go on, to a state with the property? -/
def goesTo (o : Host.Outcome State Fault Refusal) (p : State → Bool) : Bool :=
  match o with
  | .next t => p t
  | .fault _ => false
  | .refused _ => false

/-! ### Decoding: words written out from the formats of 30_encoding.md R91 to R94 and the opcode map R101 -/

-- 0000 0000 | 0000 0000 | 0000 0000 | OP
theorem test_decode_nop : decode 0x00000000#32 = .command .nop := by decide
-- 0000 0000 0000 0000 | D8 = 0011 0010 | 0000 0001
theorem test_decode_quant : decode 0b00000000000000000011001000000001#32 = .command (.quant 50) := by decide
-- 0 (20) | C4 = 1001 | 0000 0010
theorem test_decode_dequant : decode 0b00000000000000000000100100000010#32 = .command (.dequant 9) := by decide
-- 0 (8) | DC = 1001 | 00 | TID = 10 | 0 | PID = 0000101 | 0000 0011
theorem test_decode_pack : decode 0b00000000100100100000010100000011#32 = .command (.pack 5 2 9) := by decide
theorem test_decode_unpack : decode 0x00000004#32 = .command .unpack := by decide
-- 0000 0000 0000 0000 | D8 = 0000 0001 | 0000 0101
theorem test_decode_packs : decode 0b00000000000000000000000100000101#32 = .command (.packs 1) := by decide
theorem test_decode_encode : decode 0x00000006#32 = .command .encode := by decide
theorem test_decode_send : decode 0x00000007#32 = .command .send := by decide
theorem test_decode_classify : decode 0x00000008#32 = .command .classify := by decide
theorem test_decode_decode : decode 0x00000009#32 = .command .decode := by decide
theorem test_decode_arm : decode 0x0000000A#32 = .command .arm := by decide
theorem test_decode_tick : decode 0x0000000B#32 = .command .tick := by decide
theorem test_decode_poll : decode 0x0000000C#32 = .command .poll := by decide
theorem test_decode_cancel : decode 0x0000000D#32 = .command .cancel := by decide
theorem test_decode_teardown : decode 0x0000000E#32 = .command .teardown := by decide
theorem test_decode_clrerr : decode 0x0000000F#32 = .command .clrerr := by decide

/-! ### Well-formedness: the words that 95_test_vectors.md §3.5 calls illegal -/

theorem test_wf_refuses_op_above_0x0F : commandWordWf 0x00000010#32 = false ∧ commandWordWf 0x000000FF#32 = false := by decide
theorem test_wf_refuses_format_N : commandWordWf 0x00000100#32 = false ∧ commandWordWf 0x80000006#32 = false := by decide
theorem test_wf_refuses_format_Q : commandWordWf 0x00010001#32 = false ∧ commandWordWf 0x00010005#32 = false := by decide
theorem test_wf_refuses_format_C : commandWordWf 0x00001002#32 = false := by decide
theorem test_wf_refuses_format_P :
    commandWordWf 0x00008003#32 = false ∧ commandWordWf 0x00040003#32 = false ∧ commandWordWf 0x01000003#32 = false := by
  decide
theorem test_wf_refuses_poll_with_bits : commandWordWf 0x00000F0C#32 = false := by decide

/-! ### Commands, by the tables of 95_test_vectors.md -/

-- §3.5
theorem test_nop : goesTo (exec .nop { base with err := .badState }) (fun t => t.statusWord == 0x00000100#32) = true := by decide
-- §3.4 sequence A, CLRERR row
theorem test_clrerr :
    goesTo (exec .clrerr { armed with lhValid := true, rxDrop := true, wlock := true, err := .noStart })
      (fun t => t.statusWord == 0x00000311#32) = true := by decide
-- §3.1
theorem test_quant_high_ends : (goesTo (exec (.quant 74) base) (fun t => t.result == 13) &&
    goesTo (exec (.quant 101) base) (fun t => t.result == 0 && t.err == .ok)) = true := by decide
theorem test_dequant : (goesTo (exec (.dequant 0) base) (fun t => t.result == 1) &&
    goesTo (exec (.dequant 15) base) (fun t => t.result == 100)) = true := by decide
theorem test_pack : goesTo (exec (.pack 5 2 9) base) (fun t => t.frame == 0xA405#16 && t.result == 0x0000A405#32) = true := by
  decide
theorem test_pack_wide : goesTo (exec (.pack 127 3 15) base) (fun t => t.frame == 0xFC7F#16) = true := by decide
theorem test_unpack : goesTo (exec .unpack { base with frame := 0xFFFF }) (fun t => t.result == 0x0000F37F#32) = true := by decide
theorem test_packs : goesTo (exec (.packs 100) { base with selfPid := 0x7F, selfTid := 2 }) (fun t => t.frame == 0xBC7F#16) = true := by
  decide
-- §3.2
theorem test_encode : goesTo (exec .encode { base with frame := 0xA405 })
    (fun t => t.txBuf == batchA ++ List.replicate 31 0x11111111#32 && t.txCount == 33 && t.statusWord == 0x00000100#32) = true := by
  decide
theorem test_encode_truncates : goesTo (exec .encode { base with frame := 1, cap := 17 })
    (fun t => t.txBuf == batch1.take 17 ++ List.replicate 47 0x11111111#32 && t.txCount == 17 &&
      t.statusWord == 0x00020140#32) = true := by
  decide
theorem test_send : goesTo (exec .send { base with txCount := 33, txFail := true })
    (fun t => t.statusWord == 0x00000120#32 && t.outputs.txGo == some 33) = true := by decide
theorem test_send_truncated : goesTo (exec .send { base with txCount := 20, txTrunc := true })
    (fun t => t.statusWord == 0x00020140#32 && t.outputs.txGo == none) = true := by decide
-- §3.3
theorem test_classify : goesTo (exec .classify { banded with sym := 0xFFFF04B0#32 }) (fun t => t.result == 3) = true := by decide
theorem test_classify_edges : (goesTo (exec .classify { banded with sym := 2040 }) (fun t => t.result == 4) &&
    goesTo (exec .classify { banded with sym := 2039 }) (fun t => t.result == 0)) = true := by decide
-- bits outside the fields stay in RX_FRAME: the symbols of 0x03FF80FF
theorem test_decode_command_keeps_all_bits :
    goesTo (exec .decode (received banded (batch [1, 2, 3, 4, 5, 6, 7, 8, 9, 17, 18, 19, 20, 21, 22, 23, 24, 31, 32]) 33))
      (fun t => t.rxFrame == 0x03FF80FF#32 && t.result == 0x8001027F#32) = true := by decide
theorem test_decode_command_short :
    goesTo (exec .decode (received banded batch1 16)) (fun t => t.err == .shortFrame && t.result == 0) = true := by decide
-- §3.4 sequence A
theorem test_arm : goesTo (exec .arm banded) (fun t => t.statusWord == 0x00000301#32 && t.outputs.resume) = true := by decide
theorem test_arm_without_bands : goesTo (exec .arm base) (fun t => t.statusWord == 0x00010100#32) = true := by decide
theorem test_tick_caches : goesTo (exec .tick (mail armed batch1))
    (fun t => t.statusWord == 0x00000306#32 && t.cache == 0x80010001#32 && !t.outputs.resume) = true := by decide
theorem test_tick_no_start : goesTo (exec .tick (mail armed (List.replicate 33 symZ)))
    (fun t => t.statusWord == 0x00030301#32 && t.outputs.resume) = true := by decide
-- §1.3, at T = 0 and at T = 500
theorem test_poll_delivers : goesTo (exec .poll (mail armed batchA))
    (fun t => t.statusWord == 0x00000313#32 && t.hit == 0x80199205#32 && t.lastHit == 0) = true := by decide
theorem test_poll_inside_cooldown : goesTo (exec .poll (mail cooling batch1))
    (fun t => t.statusWord == 0x00060317#32 && t.hit == 0 && t.rxFrame == 1) = true := by decide
-- §3.4 sequence C
theorem test_cancel : goesTo (exec .cancel (cached cooling))
    (fun t => t.statusWord == 0x00000316#32 && t.outputs.resume) = true := by decide
-- §3.4 sequence F
theorem test_teardown : goesTo (exec .teardown (mail armed batch1))
    (fun t => t.statusWord == 0x00000300#32 && t.rxFrame == 0) = true := by decide

/-! ### The other steps -/

-- §3.4 sequence A: CAP = 20, a batch of 33 words; WLOCK was set before
theorem test_batch_truncates : goesTo (step (given { armed with cap := 20, wlock := true } (.rxBatch batch1)))
    (fun t => t.statusWord == 0x00001709#32 && t.rxCount == 20) = true := by decide
-- §3.2: the last rows of SEND
theorem test_tx_done_fail : goesTo (step (given { base with txCount := 33, txBusy := true, err := .txBusy } (.txDone false)))
    (fun t => t.statusWord == 0x000A0180#32) = true := by decide
-- §3.6
theorem test_read_info : goesTo (step (given base (.hostRead 0)))
    (fun t => t.outputs.readData == some 0x01201040#32) = true := by decide
theorem test_read_unmapped : goesTo (step (given base (.hostRead 0x3FF)))
    (fun t => t.outputs.bus == some .busErr && t.outputs.readData == some 0) = true := by decide
theorem test_write_self : goesTo (step (given base (.hostWrite 20 0xFFFFFFFF#32)))
    (fun t => t.selfWord == 0x0000037F#32) = true := by decide
theorem test_write_cap_uses_low_byte : (goesTo (step (given base (.hostWrite 19 0x100))) (fun t => t.cap == 0) &&
    goesTo (step (given base (.hostWrite 19 0xFF))) (fun t => t.cap == 64)) = true := by decide
theorem test_write_locked : goesTo (step (given armed (.hostWrite 12 0)))
    (fun t => t.timStart == 0x02580960#32 && t.wlock) = true := by decide
-- §3.7
theorem test_reset : goesTo (step (given { cached cooling with mbFull := true, txBusy := true, err := .badState } .reset))
    (fun t => t.statusWord == 0x00000100#32) = true := by decide
-- the word the host's check places is the one the next step runs
theorem test_fetch_word : goesTo (step (base.withFetchWord 32 0x00003201)) (fun t => t.result == 13) = true := by decide

/-! ### Witnesses: states and operands that meet the hypotheses of the statements -/

theorem goesTo_next {o : Host.Outcome State Fault Refusal} {p : State → Bool} (h : goesTo o p = true) :
    ∃ t, o = .next t ∧ p t = true := by
  cases o with
  | next t => exact ⟨t, rfl, h⟩
  | fault _ => cases h
  | refused _ => cases h

theorem witness_DecodedWordReencodes : decode 0x00F37F03#32 = .command (.pack 127 3 15) := by decide

theorem witness_DecodeFollowsTheOpcodeMap :
    decode 0x0000FF01#32 = .command (.quant 255) ∧ (Instr.quant 255).row ∈ opcodeTable ∧
      0x0000FF01#32 &&& (Instr.quant 255).row.mask = (Instr.quant 255).row.value := by decide

theorem witness_OperandsAreTheFieldsOfTheWord :
    0x0000FF01#32 &&& 0xFFFF00FF#32 = 0x00000001#32 ∧ 0x00000F02#32 &&& 0xFFFFF0FF#32 = 0x00000002#32 ∧
      0x00F37F03#32 &&& 0xFF0C80FF#32 = 0x00000003#32 ∧ 0x0000FF05#32 &&& 0xFFFF00FF#32 = 0x00000005#32 := by decide

theorem witness_IllegalWordsAreOfTwoKinds :
    decode 0x00000010#32 = .illegal .unknownOpcode ∧ decode 0x0000010F#32 = .illegal .reservedBits ∧
      ∀ r ∈ opcodeTable, 0x0000010F#32 &&& r.mask ≠ r.value := by decide

theorem witness_StepRunsDecodedCommand :
    (given base (.hostWrite 1 0x0000000C#32)).inputs = .hostWrite 1 0x0000000C#32 :: [] ∧
      decode 0x0000000C#32 = .command .poll := by decide

theorem witness_UnmatchedWordOnlyReportsIllegalCommand :
    (given base (.hostWrite 1 0x00000010#32)).inputs = .hostWrite 1 0x00000010#32 :: [] ∧
      ∀ r ∈ opcodeTable, 0x00000010#32 &&& r.mask ≠ r.value := by decide

theorem witness_RefusedCommandsOnlyReportTheError : base.wmOk = false ∧ base.session = .idle := by decide

/-- Both ends of every band, and the codes at them (95_test_vectors.md §3.1). -/
theorem witness_QuantGivesTheBandCode : (0, 1, 0) ∈ damageBands ∧ (101, 255, 0) ∈ damageBands ∧
    (damageBands.all fun band => quantize (BitVec.ofNat 8 band.1) == BitVec.ofNat 4 band.2.2 &&
      quantize (BitVec.ofNat 8 band.2.1) == BitVec.ofNat 4 band.2.2) = true := by decide

theorem witness_DequantGivesTheTableDamage : (0, 1) ∈ damageOfCode ∧ (15, 100) ∈ damageOfCode := by decide

theorem witness_QuantizerAndPackerLaws : (0#8 < 100#8 ∧ (100#8).toNat ≤ 100) ∧ (0#8).toNat ≤ 100 := by decide

/-- Busy; a timing constant 0; and n = 33 at CAP 64 and 33, n = 32, and n = 0. -/
theorem witness_EncodeWritesTheSymbols :
    ({ base with txBusy := true }).txBusy = true ∧
    (({ base with timBits := 0x04B00000#32 }).txBusy = false ∧ ({ base with timBits := 0x04B00000#32 }).timingOk = false) ∧
    ∀ p ∈ [(64#8, 33), (33#8, 33), (32#8, 32), (0#8, 0)],
      ({ base with cap := p.1 }).txBusy = false ∧ ({ base with cap := p.1 }).timingOk = true ∧
        p.2 = min ({ base with cap := p.1 }).cap.toNat 33 ∧ p.2 ≤ ({ base with cap := p.1 }).txBuf.length := by decide

theorem witness_TxDoneEndsTheTransmission :
    (given { base with txBusy := true } (.txDone false)).inputs = .txDone false :: [] ∧
      (given { base with txBusy := true } (.txDone false)).txBusy = true ∧
      (given base (.txDone true)).inputs = .txDone true :: [] ∧ (given base (.txDone true)).txBusy = false := by decide

theorem witness_TransmitBufferIsStableWhileBusy :
    ∃ s t : State, s.txBusy = true ∧ s.nextInput ≠ some .reset ∧ s.nextCommand = some .encode ∧ step s = .next t := by
  obtain ⟨t, h, _⟩ := goesTo_next (o := step (given { base with txBusy := true } (.hostWrite 1 6))) (p := fun _ => true) (by decide)
  exact ⟨_, t, by decide, by decide, by decide, h⟩

theorem witness_WaveformDuration :
    ∃ s t : State, 5 = ((List.range 32).filter (fun i => s.frameWord.getLsbD i)).length ∧ 33 ≤ s.txBuf.length ∧
      exec .encode s = .next t ∧ t.err = .ok := by
  obtain ⟨t, h, p⟩ := goesTo_next (o := exec .encode { base with frame := 0xA405 }) (p := fun t => t.err == .ok) (by decide)
  exact ⟨_, t, by decide, by decide, h, by simpa using p⟩

theorem witness_ValidBandsAreDisjoint : banded.wmOk = true := by decide

/-- Every duration, the ends of the bands among them; and a state with invalid bands. -/
theorem witness_ClassifyReportsTheFirstBand (d : Duration) :
    base.wmOk = false ∧ ({ banded with sym := d.setWidth 32 }).wmOk = true ∧
      d = ({ banded with sym := d.setWidth 32 }).sym.extractLsb' 0 16 :=
  ⟨by decide, (by decide : banded.wmOk = true), by
    apply BitVec.eq_of_getLsbD_eq
    intro i hi
    have h : i < 32 := by omega
    simp [hi, h]⟩

/-- n = 16, the least, and n = 32, the most, with symbols after index 32. -/
theorem witness_DecodeAssemblesTheFrame :
    ∀ p ∈ [(received banded batchA 17, 16), (received banded batchA 64, 32)],
      p.1.wmOk = true ∧ 17 ≤ p.1.rxCount.toNat ∧ p.2 = min (p.1.rxCount.toNat - 1) 32 ∧
      inBand p.1.wmStart (lowHalf (readWord p.1.rxBuf 0)) = true ∧
      (∀ k < p.2, inBand (if (0x0000A405#32).getLsbD (8 * (k / 8) + 7 - k % 8) then p.1.wmOne else p.1.wmZero)
        (lowHalf (readWord p.1.rxBuf (k + 1))) = true) ∧
      (∀ k < 32, p.2 ≤ k → (0x0000A405#32).getLsbD (8 * (k / 8) + 7 - k % 8) = false) := by decide

/-- RX_COUNT = 0; a first symbol that is not Start; Start, and a Gap at index 1 and at index 32; 16 symbols, and 1. -/
theorem witness_DecodeReportsTheFirstFailure :
    (banded.wmOk = true ∧ banded.rxCount = 0#8) ∧
    classifySymbol banded.bands (readWord (received banded [symZ] 1).rxBuf 0) ≠ .start ∧
    (∀ k ∈ [1, 32], (received banded (batchA.set k 0x025800C8#32) 33).rxCount ≠ 0#8 ∧
      classifySymbol banded.bands (readWord (received banded (batchA.set k 0x025800C8#32) 33).rxBuf 0) = .start ∧
      1 ≤ k ∧ k ≤ min ((received banded (batchA.set k 0x025800C8#32) 33).rxCount.toNat - 1) 32 ∧
      classifySymbol banded.bands (readWord (received banded (batchA.set k 0x025800C8#32) 33).rxBuf k) = .gap) ∧
    (∀ n ∈ [1#8, 16#8], (received banded batchA n).rxCount ≠ 0#8 ∧
      classifySymbol banded.bands (readWord (received banded batchA n).rxBuf 0) = .start ∧
      (received banded batchA n).rxCount.toNat ≤ 16 ∧
      ∀ k < n.toNat, 1 ≤ k → classifySymbol banded.bands (readWord (received banded batchA n).rxBuf k) = .one ∨
        classifySymbol banded.bands (readWord (received banded batchA n).rxBuf k) = .zero) := by decide

/-- Two states that agree on the operands alone: with valid bands, and with the bands of reset. -/
theorem witness_DecodingReadsOnlyItsOperands :
    ∀ p ∈ [(received banded batchA 33, received { armed with now := 7, result := 1, rxFrame := 1 } batchA 33, true),
        (received base batchA 33, received { base with now := 7, result := 1, rxFrame := 1 } batchA 33, false)],
      p.1.wmOk = p.2.2 ∧ p.1.bands = p.2.1.bands ∧ p.1.rxCount = p.2.1.rxCount ∧
        (∀ j < min p.1.rxCount.toNat 33, readWord p.1.rxBuf j = readWord p.2.1.rxBuf j) ∧
        goesTo (exec .decode p.1) (fun _ => true) = true ∧ goesTo (exec .decode p.2.1) (fun _ => true) = true := by decide

theorem witness_DecodingReadsOnlyItsOperands_classify :
    ∀ p ∈ [({ banded with sym := 1200 }, { banded with sym := 0xFFFF04B0#32, result := 1 }, true),
        ({ base with sym := 1200 }, { base with sym := 0xFFFF04B0#32, result := 1 }, false)],
      p.1.wmOk = p.2.2 ∧ p.1.bands = p.2.1.bands ∧ p.1.sym.extractLsb' 0 16 = p.2.1.sym.extractLsb' 0 16 ∧
        goesTo (exec .classify p.1) (fun _ => true) = true ∧ goesTo (exec .classify p.2.1) (fun _ => true) = true := by decide

theorem banded_nonDegenerate : banded.NonDegenerate := by
  refine ⟨?_, ?_, ?_, ?_, ?_⟩ <;> decide

theorem witness_EncodeDecodeRoundTrip :
    ∃ s packed sent rcv : State, s.NonDegenerate ∧ s.txBusy = false ∧ 33 ≤ s.cap.toNat ∧ 33 ≤ s.txBuf.length ∧
      exec (.pack 64 1 13) s = .next packed ∧ exec .encode packed = .next sent ∧ rcv.bands = s.bands ∧ rcv.rxCount = 33 ∧
      ∀ j < 33, readWord rcv.rxBuf j = readWord sent.txBuf j := by
  obtain ⟨a, ha, pa⟩ := goesTo_next (o := exec (.pack 64 1 13) banded)
    (p := fun t => goesTo (exec .encode t) (fun _ => true)) (by decide)
  obtain ⟨b, hb, _⟩ := goesTo_next pa
  exact ⟨banded, a, b, { banded with rxBuf := b.txBuf, rxCount := 33 }, banded_nonDegenerate, by decide, by decide, by decide,
    ha, hb, rfl, rfl, fun _ _ => rfl⟩

theorem witness_TickExpiresTheCooldown :
    (let s := { cooling with now := 1499 }
    s.session ≠ .idle ∧ s.mbFull = false ∧ ¬s.cooldown ≤ s.now - s.lastHit) ∧
      (let s := { cooling with now := 1500 }
      s.session ≠ .idle ∧ s.mbFull = false ∧ s.session = .coolingDown ∧ s.cooldown ≤ s.now - s.lastHit) := by decide

theorem witness_DecodedBatchIsCachedOrDelivered :
    (mail armed batchA).session = .armed ∧ (mail armed batchA).mbFull = true ∧ (mail armed batchA).cacheValid = false ∧
      (mail armed batchA).decodeReceived = .frame 0x0000A405#32 := by decide

/-- Listening, in HitPending, at the last moment of the cooldown, and at the first after it without and with a cached hit. -/
theorem witness_FailedBatchIsDiscarded :
    ∀ p ∈ [(mail armed [symZ], Session.armed, false), (mail (cached { armed with session := .hitPending }) [symZ], .hitPending, true),
        (mail { cooling with now := 1499 } [symZ], .coolingDown, false), (mail { cooling with now := 1500 } [symZ], .coolingDown, false),
        (mail (cached { cooling with now := 1500 }) [symZ], .coolingDown, true)],
      p.1.mbFull = true ∧ p.1.decodeReceived = .error .noStart ∧ p.1.session = p.2.1 ∧ p.1.cacheValid = p.2.2 := by decide

/-- The last moment of a cooldown is inside it, and the first after it is not (95_test_vectors.md §1.3, at T = 1499 and 1500). -/
theorem witness_cooldown_boundary :
    (let s := { cooling with now := 1499 }; s.now - s.lastHit < s.cooldown) ∧
      (let s := { cooling with now := 1500 }; s.cooldown ≤ s.now - s.lastHit) := by decide

theorem witness_PollDeliversTheCachedHit :
    ∀ p ∈ [(cached { armed with session := .hitPending }, Session.hitPending, true), (armed, .armed, false),
        ({ cooling with now := 1499 }, .coolingDown, false), ({ cooling with now := 1500 }, .coolingDown, false),
        (cached { cooling with now := 1500 }, .coolingDown, true)],
      p.1.mbFull = false ∧ p.1.session = p.2.1 ∧ p.1.cacheValid = p.2.2 := by decide

theorem witness_HitInsideCooldownIsCached :
    ∀ s ∈ [mail { cooling with now := 1499 } batchA, mail { cooling with now := 1500 } batchA],
      s.session = .coolingDown ∧ s.mbFull = true ∧ s.cacheValid = false ∧ s.decodeReceived = .frame 0x0000A405#32 := by decide

theorem witness_FirstCachedHitIsKept :
    ∀ p ∈ [(mail (cached { armed with session := .hitPending }) batchA, Session.hitPending),
        (mail (cached { cooling with now := 1499 }) batchA, .coolingDown),
        (mail (cached { cooling with now := 1500 }) batchA, .coolingDown), (mail (cached armed) batchA, .armed)],
      p.1.cacheValid = true ∧ p.1.mbFull = true ∧ p.1.decodeReceived = .frame 0x0000A405#32 ∧ p.1.session = p.2 := by decide

/-- What of the invariant can be decided. -/
abbrev Checks (s : State) : Prop :=
  (s.session = .idle → s.mbFull = false ∧ s.cacheValid = false ∧ s.lhValid = false) ∧
    (s.session = .hitPending → s.cacheValid = true) ∧ (s.session = .armed → s.cacheValid = false) ∧
    (s.session = .coolingDown → s.lhValid = true) ∧ (s.session ≠ .idle → s.timingOk = true ∧ s.wmOk = true) ∧
    (s.mbFull = true → s.rxCount ≤ s.cap) ∧ s.cap ≤ s.depth ∧ s.rxCount ≤ s.depth ∧
    (s.txCount ≤ 33 ∧ s.txCount ≤ s.depth) ∧ (s.txBusy = true → s.txTrunc = false ∧ s.txCount = 33) ∧
    (s.txTrunc = false → s.txCount = 0 ∨ s.txCount = 33) ∧ (s.session = .idle → s.cache = 0 ∧ s.lastHit = 0) ∧
    (s.cacheValid = true → s.cache = decodedFrame 1) ∧
    (Config.minDepth ≤ s.depth.toNat ∧ s.depth.toNat ≤ Config.maxDepth) ∧ Memory.wf s = true

theorem inv_of_checks {s : State} (h : Checks s) : s.Inv := by
  obtain ⟨h1, h2, h3, h4, h5, h6, h7, h8, h9, h10, h11, h12, h13, h14, h15⟩ := h
  exact ⟨h1, h2, h3, h4, h5, h6, h7, h8, h9, h10, h11, h12, fun h => ⟨1, h13 h⟩, h14, h15⟩

/-- m = 0, m = L and m = CAP < L. -/
theorem witness_AcceptedBatchFillsTheMailbox :
    ∀ p ∈ [([], 64#8, 0), (batch1, 64#8, 33), (batch1, 33#8, 33), (batch1, 20#8, 20)],
      (let s := given { armed with cap := p.2.1 } (.rxBatch p.1)
      s.inputs = .rxBatch p.1 :: [] ∧ s.session ≠ .idle ∧ s.mbFull = false ∧ p.2.2 = min p.1.length s.cap.toNat ∧
        p.2.2 ≤ s.rxBuf.length) := by decide

theorem witness_UnacceptedBatchIsDropped :
    ∀ s ∈ [given banded (.rxBatch batch1), given (mail armed batchA) (.rxBatch batch1)],
      s.inputs = .rxBatch batch1 :: [] ∧ (s.session = .idle ∨ s.mbFull = true) := by decide

/-- The row of 95_test_vectors.md §3.4 sequence E, and the greatest d. -/
theorem witness_EarlierNowExpiresAtOnce :
    ∀ p ∈ [(5000#32, 4000#32, 1000), (0xFFFFFFFF#32, 1499#32, 2 ^ 32 - 1500)],
      (let s := { cooling with lastHit := p.1, now := p.2.1 }
      s.session = .coolingDown ∧ s.mbFull = false ∧ 0 < p.2.2 ∧ p.2.2 + s.cooldown.toNat ≤ 2 ^ 32 ∧
        s.now = s.lastHit - BitVec.ofNat 32 p.2.2) := by decide

theorem witness_SessionMovesOnlyAlongTheTable : ∃ s t : State, step s = .next t ∧ s.session ≠ t.session := by
  obtain ⟨t, h, p⟩ := goesTo_next (o := step (given banded (.hostWrite 1 0x0A))) (p := fun t => decide (t.session ≠ .idle)) (by decide)
  exact ⟨_, t, h, fun e => (of_decide_eq_true p) e.symm⟩

/-- For each of the four cases in which RESUME is asserted, and for a step that does not assert it. -/
theorem witness_ResumeIsAssertedExactlyWhenListeningRestarts :
    ∀ p ∈ [(given banded (.hostWrite 1 0x0A), true), (given (cached { cooling with now := 500 }) (.hostWrite 1 0x0D), true),
        (given (cached { cooling with now := 1500 }) (.hostWrite 1 0x0C), true),
        (given (mail armed [symZ]) (.hostWrite 1 0x0B), true), (given (mail armed [symZ]) (.hostWrite 1 0x00), false)],
      p.1.Inv ∧ ∃ t, step p.1 = .next t ∧ t.outputs.resume = p.2 := by
  have run : ∀ p : State × Bool, goesTo (step p.1) (fun t => t.outputs.resume == p.2) = true →
      ∃ t, step p.1 = .next t ∧ t.outputs.resume = p.2 := by
    intro p h
    obtain ⟨t, h, e⟩ := goesTo_next h
    exact ⟨t, h, by simpa using e⟩
  simp only [List.mem_cons, List.not_mem_nil, or_false]
  rintro p (rfl | rfl | rfl | rfl | rfl)
  · exact ⟨inv_of_checks (by decide +kernel), run _ (by decide)⟩
  · exact ⟨inv_of_checks (by decide +kernel), run _ (by decide)⟩
  · exact ⟨inv_of_checks (by decide +kernel), run _ (by decide)⟩
  · exact ⟨inv_of_checks (by decide +kernel), run _ (by decide)⟩
  · exact ⟨inv_of_checks (by decide +kernel), run _ (by decide)⟩

/-- A batch arrives in the cooldown, and a POLL at the last moment of the cooldown finds it. -/
theorem witness_NoHitIsDeliveredInsideTheCooldown :
    ∃ s t u : State, s.session = .coolingDown ∧ s.lastHit = 0 ∧ Run (State.InsideCooldown 0) s t ∧ s ≠ t ∧
      t.InsideCooldown 0 ∧ t.nextCommand = some .poll ∧ step t = .next u := by
  obtain ⟨t, h, p⟩ := goesTo_next
    (o := step { cooling with now := 1499, inputs := [.rxBatch batchA, .hostWrite 1 0x0C] })
    (p := fun t => decide (t.inputs = [.hostWrite 1 0x0C] ∧ t.now = 1499 ∧ t.cooldown = 1500) && goesTo (step t) (fun _ => true))
    (by decide)
  rw [Bool.and_eq_true, decide_eq_true_iff] at p
  obtain ⟨⟨hi, hn, hc⟩, p⟩ := p
  obtain ⟨u, hu, _⟩ := goesTo_next p
  have hp : t.nextCommand = some .poll := by
    unfold State.nextCommand
    rw [hi]
    decide
  refine ⟨_, t, u, by decide, by decide, .snoc (.start _) ?_ h, ?_, ?_, hp, hu⟩
  · refine ⟨?_, ?_, ?_, ?_⟩ <;> decide
  · intro e
    rw [← e] at hi
    exact absurd hi (by decide)
  · refine ⟨by rw [hp]; decide, by rw [hp]; decide, ?_, fun _ => ?_⟩
    · unfold State.nextInput
      rw [hi]
      decide
    · rw [hn, hc]
      decide

/-- A batch is accepted and delivered: the bound is reached. -/
theorem witness_HitsNeverExceedAcceptedBatches :
    ∃ s t : State, s.Inv ∧ CountedRun s 1 1 t := by
  obtain ⟨t, h, p⟩ := goesTo_next (o := step { armed with inputs := [.rxBatch batchA, .hostWrite 1 0x0C] })
    (p := fun t => !t.acceptsBatch && goesTo (step t) (fun u => deliversHit t u)) (by decide)
  rw [Bool.and_eq_true, Bool.not_eq_true'] at p
  obtain ⟨u, hu, e⟩ := goesTo_next p.2
  have h1 := CountedRun.snoc (.snoc (.start _) h) hu
  have h0 : ({ armed with inputs := [.rxBatch batchA, .hostWrite 1 0x0C] } : State).acceptsBatch = true := by decide
  have hb : deliversHit { armed with inputs := [.rxBatch batchA, .hostWrite 1 0x0C] } t = false := by
    unfold deliversHit
    rw [Bool.and_eq_false_iff]
    exact .inl (by decide)
  rw [p.1, e, h0, hb] at h1
  exact ⟨_, u, inv_of_checks (by decide +kernel), h1⟩

theorem witness_EveryStepKeepsTheInvariant : ∃ s t : State, s.Inv ∧ step s = .next t ∧ s.session ≠ t.session := by
  obtain ⟨t, h, p⟩ := goesTo_next (o := step (given banded (.hostWrite 1 0x0A))) (p := fun t => decide (t.session ≠ .idle)) (by decide)
  exact ⟨_, t, inv_of_checks (by decide +kernel), h, fun e => (of_decide_eq_true p) e.symm⟩

theorem witness_ResetSatisfiesTheInvariant :
    ∀ depth ∈ [64#8, 192#8], 64 ≤ depth.toNat ∧ depth.toNat ≤ 192 := by decide

theorem witness_ResetRegisterValues :
    ({ cached cooling with txBusy := true, inputs := [.reset, .txDone false] } : State).inputs =
      .reset :: [.txDone false] := by decide

theorem witness_ResetDestroysTheSession :
    ({ cached cooling with inputs := [.reset, .rxBatch batch1] } : State).inputs = .reset :: .rxBatch batch1 :: [] := by decide

/-- A host write to another register, and a reset. -/
theorem witness_OnlyCommandsAndResetWriteErr :
    (∃ s t : State, s.err ≠ .ok ∧ step s = .next t ∧ s.nextInput = some (.hostWrite 4 7)) ∧
      ∃ s t : State, s.err ≠ .ok ∧ step s = .next t ∧ s.nextInput = some .reset := by
  obtain ⟨t, h, _⟩ := goesTo_next (o := step (given { base with err := .badState } (.hostWrite 4 7))) (p := fun _ => true) (by decide)
  obtain ⟨u, g, _⟩ := goesTo_next (o := step (given { base with err := .badState } .reset)) (p := fun _ => true) (by decide)
  exact ⟨⟨_, t, by decide, h, by decide⟩, _, u, by decide, g, by decide⟩

theorem witness_ConfigurationChangesOnlyInIdle : ∃ s t : State, step s = .next t ∧ t.configuration ≠ s.configuration := by
  obtain ⟨t, h, p⟩ := goesTo_next (o := step (given base (.hostWrite 19 20)))
    (p := fun t => decide (t.configuration ≠ base.configuration)) (by decide)
  exact ⟨_, t, h, of_decide_eq_true p⟩

/-- For each clause on a register a step that changes it. -/
theorem witness_RegistersChangeOnlyByTheirWriters :
    ∀ p ∈ [(given base (.hostWrite 1 0x3201), fun s t : State => decide (t.result ≠ s.result)),
        (given base (.hostWrite 4 7), fun s t => decide (t.now ≠ s.now)),
        (given base (.hostWrite 5 7), fun s t => decide (t.sym ≠ s.sym)),
        (given base (.hostWrite 6 7), fun s t => decide (t.frame ≠ s.frame)),
        (given base (.hostWrite 1 6), fun s t => decide (t.txCount ≠ s.txCount)),
        (given base (.hostWrite 8 7), fun s t => decide (t.rxCount ≠ s.rxCount)),
        (given base (.hostWrite 0x23F 7), fun s t => decide (t.rxBuf ≠ s.rxBuf)),
        (given (received banded batchA 33) (.hostWrite 1 9), fun s t => decide (t.rxFrame ≠ s.rxFrame)),
        (given (mail { armed with now := 9 } batchA) (.hostWrite 1 0x0C),
          fun s t => decide (t.hit ≠ s.hit ∧ t.lastHit ≠ s.lastHit ∧ t.cache ≠ s.cache))],
      p.1.nextInput ≠ some .reset ∧ goesTo (step p.1) (p.2 p.1) = true := by decide

/-- For each clause on a flag a step that sets it or clears it. -/
theorem witness_RegistersChangeOnlyByTheirWriters_flags :
    ∀ p ∈ [(given (mail armed batchA) (.hostWrite 1 0x0B), fun s t : State => !s.cacheValid && t.cacheValid && s.mbFull && !t.mbFull),
        (given (cached { armed with session := .hitPending }) (.hostWrite 1 0x0C),
          fun s t => s.cacheValid && !t.cacheValid && !s.lhValid && t.lhValid),
        (given cooling (.hostWrite 1 0x0E), fun s t => s.lhValid && !t.lhValid),
        (given { armed with cap := 5 } (.rxBatch batchA), fun s t => !s.mbFull && t.mbFull && !s.rxTrunc && t.rxTrunc),
        (given { base with txCount := 33, txFail := true } (.hostWrite 1 7), fun s t => !s.txBusy && t.txBusy && s.txFail && !t.txFail),
        (given { base with txBusy := true } (.txDone false), fun s t => s.txBusy && !t.txBusy && !s.txFail && t.txFail),
        (given base (.rxBatch batchA), fun s t => !s.rxDrop && t.rxDrop),
        (given armed (.hostWrite 20 0), fun s t => !s.wlock && t.wlock),
        (given { base with rxDrop := true, wlock := true } (.hostWrite 1 0x0F),
          fun s t => s.rxDrop && !t.rxDrop && s.wlock && !t.wlock)],
      p.1.nextInput ≠ some .reset ∧ goesTo (step p.1) (p.2 p.1) = true := by decide

/-- The first and last index of each mapped and unmapped range. -/
theorem witness_UnmappedAccessGetsBusErr :
    (∀ a ∈ [21#10, 0xFF#10, 0x140#10, 0x1FF#10, 0x240#10, 0x3FF#10], ¬mappedIndex base.depth a) ∧
      (∀ a ∈ [0#10, 20#10, 0x100#10, 0x13F#10, 0x200#10, 0x23F#10], mappedIndex base.depth a) ∧
      (given base (.hostRead 21)).inputs = .hostRead 21 :: [] := by
  unfold mappedIndex
  decide

theorem witness_HostReadReturnsTheWord :
    0x01#8 ++ 0x20#8 ++ 0x10#8 ++ base.depth = 0x01201040#32 ∧ 0#22 ++ base.selfTid ++ 0#1 ++ base.selfPid = 0#32 ∧
      (∀ i ∈ [0, 63], i < base.depth.toNat ∧ (BitVec.ofNat 10 (0x100 + i)).toNat = 0x100 + i ∧
        (BitVec.ofNat 10 (0x200 + i)).toNat = 0x200 + i) ∧
      (given base (.hostRead 0)).inputs = .hostRead 0 :: [] := by decide

theorem witness_StatusWordLayout :
    (given base (.hostWrite 2 5)).inputs = .hostWrite 2 5 :: [] := by decide

/-- Read-only registers, the ends of TX_BUF, a locked register and the ends of RX_BUF. -/
theorem witness_ReadOnlyAndLockedWritesStoreNothing :
    (given armed (.hostWrite 0 5)).inputs = .hostWrite 0 5 :: [] ∧ armed.session ≠ .idle ∧
      (∀ a ∈ [0x100, 0x13F], 0x100 ≤ a ∧ a < 0x100 + armed.depth.toNat) ∧
      ∀ a ∈ [0x200, 0x23F], 0x200 ≤ a ∧ a < 0x200 + armed.depth.toNat := by decide

theorem witness_HostWriteStoresTheField :
    ∀ a ∈ [4#10, 5#10, 6#10, 8#10, 12#10, 13#10, 14#10, 15#10, 16#10, 17#10, 18#10, 19#10, 20#10],
      (given base (.hostWrite a 0x100)).inputs = .hostWrite a 0x100 :: [] ∧ (given base (.hostWrite a 0x100)).session = .idle := by
  decide

theorem witness_HostWritesOneRxBufWord :
    ∀ i ∈ [0, 63], (let s := given base (.hostWrite (BitVec.ofNat 10 (0x200 + i)) 7)
      s.session = .idle ∧ i < s.depth.toNat ∧ i < s.rxBuf.length ∧
        s.inputs = .hostWrite (BitVec.ofNat 10 (0x200 + i)) 7 :: []) := by decide

end Sys2Proof.Tests
end

namespace Sys2Proof.Machine

/-! ## The next step -/

section nextInput

variable {s : State} {e : Input} {rest : List Input} {w : Word} {i : Instr}

theorem State.nextInput_of_cons (h : s.inputs = e :: rest) : s.nextInput = some e := by
  simp [State.nextInput, h]

theorem State.nextCommand_of_command (h : s.inputs = .hostWrite 1 w :: rest) (hd : decode w = .command i) :
    s.nextCommand = some i := by
  simp [State.nextCommand, h, hd, cmdIndex]

theorem step_of_cons (h : s.inputs = e :: rest) : step s = runInput e (s.beginStep rest) := by
  simp [step, nextStep, h]

/-- A host write at an index other than CMD stores, and runs no command (R74). -/
theorem step_of_store {a : BitVec 10} (h : s.inputs = .hostWrite a w :: rest) (ha : a ≠ 1) :
    step s = .next (hostStore a w (s.beginStep rest)) := by
  rw [step_of_cons h]
  exact if_neg ha

/-- A host write at CMD runs the word, with the response OK already given (R28, R74). -/
theorem step_of_write_cmd (h : s.inputs = .hostWrite 1 w :: rest) : step s = runCommand w (s.commandStart rest) := by
  rw [step_of_cons h]
  rfl

end nextInput

/-! ## What a command can do -/

/-- The state changes a command can make, for the commands as the opcode map lists them. A command that refuses, and NOP,
only report a code (60_exceptions.md R167). -/
inductive CommandEffect (s : State) : Instr → State → Prop where
  | report (i : Instr) (e : ErrCode) : CommandEffect s i (s.setErr e)
  | quant (d : BitVec 8) (w : Word) (e : ErrCode) : CommandEffect s (.quant d) ((s.setResult w).setErr e)
  | dequant (c : BitVec 4) (w : Word) (e : ErrCode) : CommandEffect s (.dequant c) ((s.setResult w).setErr e)
  | unpack (w : Word) (e : ErrCode) : CommandEffect s .unpack ((s.setResult w).setErr e)
  | pack (p : BitVec 7) (d : BitVec 2) (c : BitVec 4) (f : Word) (e : ErrCode) :
      CommandEffect s (.pack p d c) ((s.setFrame f).setErr e)
  | packs (d : BitVec 8) (f : Word) (e : ErrCode) : CommandEffect s (.packs d) ((s.setFrame f).setErr e)
  | encode (e : ErrCode) (notBusy : s.txBusy = false) : CommandEffect s .encode (s.encodeFrame.setErr e)
  | send (e : ErrCode) (symbols : s.txCount ≠ 0) (notBusy : s.txBusy = false) (whole : s.txTrunc = false) :
      CommandEffect s .send (({ s with txBusy := true, txFail := false }.emitTxGo s.txCount).setErr e)
  | classify (w : Word) (e : ErrCode) : CommandEffect s .classify ((s.setResult w).setErr e)
  | decode (f w : Word) (e : ErrCode) : CommandEffect s .decode ({ s with rxFrame := f, result := w }.setErr e)
  | arm (e : ErrCode) (idle : s.session = .idle) (timing : s.timingOk = true) (bands : s.wmOk = true) :
      CommandEffect s .arm ({ s with session := .armed }.emitResume.setErr e)
  | tick (e : ErrCode) (active : s.session ≠ .idle) : CommandEffect s .tick ((advance s).1.setErr e)
  | poll (e : ErrCode) (active : s.session ≠ .idle) :
      CommandEffect s .poll ((deliver s.now (advance s).1).1.setErr e)
  | cancel (e : ErrCode) (cooling : s.session = .coolingDown) : CommandEffect s .cancel (s.leaveCooldown.setErr e)
  | teardown (e : ErrCode) :
      CommandEffect s .teardown
        ({ s with session := .idle, mbFull := false, cacheValid := false, cache := 0, lhValid := false, lastHit := 0 }.setErr e)
  | clrerr (e : ErrCode) : CommandEffect s .clrerr ({ s with rxDrop := false, wlock := false }.setErr e)

/-- A guarded command either refuses, with its error code, or goes on. -/
theorem refused_or_passed {c : Prop} [Decidable c] {s t : State} {e : ErrCode} {o : Host.Outcome State Fault Refusal}
    (h : (if c then finish s e else o) = .next t) : t = s.setErr e ∨ ¬c ∧ o = .next t := by
  split at h
  · exact .inl ((finish_eq_next_iff s t e).mp h)
  · next hc => exact .inr ⟨hc, h⟩

/-- `exec` stays within the effects listed. -/
theorem exec_effect {i : Instr} {s t : State} (h : exec i s = .next t) : CommandEffect s i t := by
  cases i with
  | nop => cases h; exact .report ..
  | quant d => cases h; exact .quant ..
  | dequant c => cases h; exact .dequant ..
  | pack p d c => cases h; exact .pack ..
  | unpack => cases h; exact .unpack ..
  | packs d => cases h; exact .packs ..
  | encode =>
    obtain rfl | ⟨notBusy, h⟩ := refused_or_passed h
    · exact .report ..
    obtain rfl | ⟨-, h⟩ := refused_or_passed h
    · exact .report ..
    cases h
    exact .encode _ (Bool.eq_false_of_not_eq_true notBusy)
  | send =>
    obtain rfl | ⟨symbols, h⟩ := refused_or_passed h
    · exact .report ..
    obtain rfl | ⟨notBusy, h⟩ := refused_or_passed h
    · exact .report ..
    obtain rfl | ⟨whole, h⟩ := refused_or_passed h
    · exact .report ..
    cases h
    exact .send _ symbols (Bool.eq_false_of_not_eq_true notBusy) (Bool.eq_false_of_not_eq_true whole)
  | classify =>
    obtain rfl | ⟨-, h⟩ := refused_or_passed h
    · exact .report ..
    cases h
    exact .classify ..
  | decode =>
    obtain rfl | ⟨-, h⟩ := refused_or_passed h
    · exact .report ..
    cases hd : s.decodeReceived <;> simp only [hd] at h <;> cases h <;> exact .decode ..
  | arm =>
    obtain rfl | ⟨idle, h⟩ := refused_or_passed h
    · exact .report ..
    obtain rfl | ⟨configured, h⟩ := refused_or_passed h
    · exact .report ..
    cases h
    obtain ⟨timing, bands⟩ : s.timingOk = true ∧ s.wmOk = true := by simpa using configured
    exact .arm _ (not_not.mp idle) timing bands
  | tick =>
    obtain rfl | ⟨active, h⟩ := refused_or_passed h
    · exact .report ..
    cases h
    exact .tick _ active
  | poll =>
    obtain rfl | ⟨active, h⟩ := refused_or_passed h
    · exact .report ..
    cases h
    exact .poll _ active
  | cancel =>
    obtain rfl | ⟨cooling, h⟩ := refused_or_passed h
    · exact .report ..
    cases h
    exact .cancel _ (not_not.mp cooling)
  | teardown => cases h; exact .teardown _
  | clrerr => cases h; exact .clrerr _

/-! ## What the session operations leave alone -/

theorem expire_frame (now : Word) (s : State) : ∃ x o, expire now s = { s with session := x, outputs := o } := by
  obtain ⟨-, -, h⟩ | ⟨-, h⟩ := expire_cases now s
  · exact ⟨_, _, h⟩
  · exact ⟨_, _, h⟩

theorem resumeIfArmed_frame (s : State) : ∃ o, resumeIfArmed s = { s with outputs := o } := by
  obtain ⟨-, h⟩ | ⟨-, h⟩ := resumeIfArmed_cases s
  · exact ⟨_, h⟩
  · exact ⟨_, h⟩

/-- After a batch that decoded, a hit is cached. -/
theorem cacheHit_frame (f : Word) (s : State) :
    ∃ x k, cacheHit f s = { s with rxFrame := f, session := x, cache := k, cacheValid := true } := by
  obtain ⟨hv, h⟩ | ⟨-, h⟩ := cacheHit_cases f s
  · exact ⟨s.session, s.cache, by rw [h, ← hv]⟩
  · exact ⟨_, _, h⟩

/-- A drain leaves the mailbox empty, and discards no cached hit. -/
theorem drain_frame (s : State) : ∃ x c k f o, (s.cacheValid = true → c = true) ∧
    (drain s).1 = { s with
      mbFull := false, session := x, cacheValid := c, cache := k, rxFrame := f, outputs := o } := by
  obtain ⟨hm, h⟩ | ⟨-, f, -, h⟩ | ⟨-, e, -, h⟩ := drain_cases s
  · exact ⟨s.session, s.cacheValid, s.cache, s.rxFrame, s.outputs, id, by rw [h, ← hm]⟩
  · obtain ⟨x, k, hc⟩ := cacheHit_frame f { s with mbFull := false }
    obtain ⟨o, ho⟩ := resumeIfArmed_frame (cacheHit f { s with mbFull := false })
    exact ⟨x, true, k, f, o, fun _ => rfl, by rw [h, ho, hc]⟩
  · obtain ⟨o, ho⟩ := resumeIfArmed_frame { s with mbFull := false, rxFrame := 0 }
    exact ⟨s.session, s.cacheValid, s.cache, 0, o, id, by rw [h, ho]⟩

theorem advance_frame (s : State) : ∃ x c k f o, (s.cacheValid = true → c = true) ∧
    (advance s).1 = { s with
      mbFull := false, session := x, cacheValid := c, cache := k, rxFrame := f, outputs := o } := by
  obtain ⟨y, p, he⟩ := expire_frame s.now s
  unfold advance
  rw [he]
  exact drain_frame { s with session := y, outputs := p }

/-- Delivery fills LAST_HIT, and never clears LH_VALID. -/
theorem deliver_frame (now : Word) (s : State) : ∃ x c l n v, (s.lhValid = true → v = true) ∧
    (deliver now s).1 = { s with session := x, cacheValid := c, hit := l, lastHit := n, lhValid := v } := by
  obtain ⟨-, h⟩ | ⟨-, h⟩ := deliver_cases now s
  · exact ⟨_, _, _, _, true, fun _ => rfl, congrArg Prod.fst h⟩
  · exact ⟨s.session, s.cacheValid, 0, s.lastHit, s.lhValid, id, congrArg Prod.fst h⟩

/-- What POLL may change: what expire and drain may, and what a delivery may. -/
theorem poll_frame (s : State) : ∃ x c k f l n v o, (s.lhValid = true → v = true) ∧
    (deliver s.now (advance s).1).1 = { s with
      mbFull := false, session := x, cacheValid := c, cache := k, rxFrame := f, hit := l, lastHit := n, lhValid := v,
      outputs := o } := by
  obtain ⟨_, _, k, f, o, -, h⟩ := advance_frame s
  rw [h]
  obtain ⟨x, c, l, n, v, keepsTime, g⟩ := deliver_frame s.now
    { s with mbFull := false, session := _, cacheValid := _, cache := k, rxFrame := f, outputs := o }
  exact ⟨x, c, k, f, l, n, v, o, keepsTime, g⟩

/-! ## What a host write can do -/

/-- The index of a register in the map is its place in the order of the offsets (R24). -/
theorem registerMap_eq_some_iff (n : Nat) (r : Reg) : registerMap[n]? = some r ↔ n = registerMap.idxOf r := by
  have nodup : registerMap.Nodup := by decide
  have mem : r ∈ registerMap := by cases r <;> decide
  constructor
  · intro h
    obtain ⟨hn, rfl⟩ := List.getElem?_eq_some_iff.mp h
    exact (nodup.idxOf_getElem n hn).symm
  · rintro rfl
    exact List.getElem?_eq_some_iff.mpr ⟨List.idxOf_lt_length_iff.mpr mem, List.getElem_idxOf _⟩

/-- The word index of a register is its place in the map (R24). -/
theorem index_of_register {a : BitVec 10} {r : Reg} (place : registerMap[a.toNat]? = some r) :
    a = BitVec.ofNat 10 (registerMap.idxOf r) := by
  rw [← (registerMap_eq_some_iff _ _).mp place, BitVec.ofNat_toNat, BitVec.setWidth_eq]

theorem registerMap_eq_none_iff (n : Nat) : registerMap[n]? = none ↔ 21 ≤ n :=
  List.getElem?_eq_none_iff

/-- The word indices of the registers and buffer words that are locked outside Idle (R25). -/
def lockedIndex (depth : BitVec 8) (a : BitVec 10) : Prop :=
  registerMap[a.toNat]?.map Reg.access = some .rwl ∨ (0x200 ≤ a.toNat ∧ a.toNat < 0x200 + depth.toNat)

/-- The registers of the access classes RO and RWL, listed by their word indices (R24, R25). -/
theorem access_at_index (n : Nat) :
    (registerMap[n]?.map Reg.access = some .ro ↔ n ∈ [0, 2, 3, 7, 9, 10, 11]) ∧
      (registerMap[n]?.map Reg.access = some .rwl ↔ n ∈ [8, 12, 13, 14, 15, 16, 17, 18, 19, 20]) := by
  by_cases h : n < 21
  · revert n
    decide
  · rw [(registerMap_eq_none_iff n).mpr (Nat.not_lt.mp h)]
    simp
    omega

theorem lockedIndex_iff (depth : BitVec 8) (a : BitVec 10) :
    lockedIndex depth a ↔ a.toNat ∈ [8, 12, 13, 14, 15, 16, 17, 18, 19, 20] ∨
      (0x200 ≤ a.toNat ∧ a.toNat < 0x200 + depth.toNat) := by
  rw [lockedIndex, (access_at_index a.toNat).2]

/-- The state changes a host write away from CMD can make (R25, R41, R74). -/
inductive StoreEffect (a : BitVec 10) (w : Word) (s : State) : State → Prop where
  | ignored : StoreEffect a w s s
  | stored (r : Reg) (place : registerMap[a.toNat]? = some r)
      (writable : r.access = .rw ∨ r.access = .rwl ∧ s.session = .idle) :
      StoreEffect a w s (storeReg s w r)
  | buffered (idle : s.session = .idle) (place : 0x200 ≤ a.toNat ∧ a.toNat < 0x200 + s.depth.toNat) :
      StoreEffect a w s { s with rxBuf := writeWord s.rxBuf (a.toNat - 0x200) w }
  | locked (active : s.session ≠ .idle) (place : lockedIndex s.depth a) : StoreEffect a w s { s with wlock := true }

theorem target_of_register {depth : BitVec 8} {a : BitVec 10} {r : Reg} (h : registerMap[a.toNat]? = some r) :
    target depth a = .reg r := by
  simp [target, h]

theorem target_of_txBuf {depth : BitVec 8} {a : BitVec 10} (h : 0x100 ≤ a.toNat ∧ a.toNat < 0x100 + depth.toNat) :
    target depth a = .txWord (a.toNat - 0x100) := by
  have noReg : registerMap[a.toNat]? = none := (registerMap_eq_none_iff _).mpr (by omega)
  simp only [target, noReg]
  exact if_pos h

theorem target_of_rxBuf {depth : BitVec 8} {a : BitVec 10} (h : 0x200 ≤ a.toNat ∧ a.toNat < 0x200 + depth.toNat) :
    target depth a = .rxWord (a.toNat - 0x200) := by
  have noReg : registerMap[a.toNat]? = none := (registerMap_eq_none_iff _).mpr (by omega)
  have hd : depth.toNat < 256 := depth.isLt
  simp only [target, noReg]
  rw [if_neg (by simp only [txBase]; omega)]
  exact if_pos h

theorem target_of_unmapped {depth : BitVec 8} {a : BitVec 10} (h : ¬mappedIndex depth a) :
    target depth a = .unmapped := by
  obtain ⟨reg, tx, rx⟩ : ¬a.toNat < 21 ∧ ¬(0x100 ≤ a.toNat ∧ a.toNat < 0x100 + depth.toNat) ∧
      ¬(0x200 ≤ a.toNat ∧ a.toNat < 0x200 + depth.toNat) := by simpa only [mappedIndex, not_or] using h
  have noReg : registerMap[a.toNat]? = none := (registerMap_eq_none_iff _).mpr (by omega)
  simp only [target, noReg]
  exact (if_neg tx).trans (if_neg rx)

/-- The four parts of the address map (R71). -/
theorem target_cases (depth : BitVec 8) (a : BitVec 10) :
    (∃ r, registerMap[a.toNat]? = some r ∧ target depth a = .reg r) ∨
      ((0x100 ≤ a.toNat ∧ a.toNat < 0x100 + depth.toNat) ∧ target depth a = .txWord (a.toNat - 0x100)) ∨
      ((0x200 ≤ a.toNat ∧ a.toNat < 0x200 + depth.toNat) ∧ target depth a = .rxWord (a.toNat - 0x200)) ∨
      (¬mappedIndex depth a ∧ target depth a = .unmapped) := by
  by_cases h : mappedIndex depth a
  · obtain h | h | h := h
    · have place := List.getElem?_eq_getElem (l := registerMap) h
      exact .inl ⟨_, place, target_of_register place⟩
    · exact .inr (.inl ⟨h, target_of_txBuf h⟩)
    · exact .inr (.inr (.inl ⟨h, target_of_rxBuf h⟩))
  · exact .inr (.inr (.inr ⟨h, target_of_unmapped h⟩))

/-- A register store, by the access class of the register (R25). -/
theorem storeTarget_reg (s : State) (w : Word) (r : Reg) :
    ((r.access = .ro ∨ r.access = .wo) → storeTarget s w (.reg r) = s) ∧
      (r.access = .rw → storeTarget s w (.reg r) = storeReg s w r) ∧
      (r.access = .rwl → storeTarget s w (.reg r) = unlessLocked s (storeReg s w r)) := by
  simp only [storeTarget]
  cases r.access <;> simp

theorem storeTarget_effect (a : BitVec 10) (w : Word) (s : State) :
    StoreEffect a w s (storeTarget s w (target s.depth a)) := by
  obtain ⟨r, place, ht⟩ | ⟨-, ht⟩ | ⟨place, ht⟩ | ⟨-, ht⟩ := target_cases s.depth a <;> rw [ht]
  · obtain ⟨readOnly, plain, lockable⟩ := storeTarget_reg s w r
    cases hr : r.access with
    | ro => rw [readOnly (.inl hr)]; exact .ignored
    | wo => rw [readOnly (.inr hr)]; exact .ignored
    | rw => rw [plain hr]; exact .stored r place (.inl hr)
    | rwl =>
      rw [lockable hr]
      obtain ⟨idle, h⟩ | ⟨active, h⟩ := unlessLocked_cases s (storeReg s w r) <;> rw [h]
      · exact .stored r place (.inr ⟨hr, idle⟩)
      · exact .locked active (.inl (by rw [place, Option.map_some, hr]))
  · exact .ignored
  · simp only [storeTarget]
    obtain ⟨idle, h⟩ | ⟨active, h⟩ :=
      unlessLocked_cases s { s with rxBuf := writeWord s.rxBuf (a.toNat - 0x200) w } <;> rw [h]
    · exact .buffered idle place
    · exact .locked active (.inr place)
  · exact .ignored

/-! ## What a step can do -/

/-- The steps of the machine, by the input they take (20_memory.md R78, R83). -/
inductive StepEffect (s : State) : State → Prop where
  | none (input : s.inputs = []) : StepEffect s (s.beginStep [])
  | read (a : BitVec 10) (rest : List Input) (input : s.inputs = .hostRead a :: rest) :
      StepEffect s (hostRead a (s.beginStep rest))
  | store (a : BitVec 10) (w : Word) (rest : List Input) (u : State) (r : BusResponse)
      (input : s.inputs = .hostWrite a w :: rest) (notCmd : a ≠ 1) (effect : StoreEffect a w (s.beginStep rest) u) :
      StepEffect s (u.reply r)
  | command (w : Word) (i : Instr) (rest : List Input) (t : State) (input : s.inputs = .hostWrite 1 w :: rest)
      (legal : s.nextCommand = some i) (effect : CommandEffect (s.commandStart rest) i t) : StepEffect s t
  | illegal (w : Word) (rest : List Input) (input : s.inputs = .hostWrite 1 w :: rest) :
      StepEffect s ((s.commandStart rest).setErr .illegalCommand)
  | batch (l : List Word) (rest : List Input) (input : s.inputs = .rxBatch l :: rest) :
      StepEffect s (rxBatch l (s.beginStep rest))
  | done (success : Bool) (rest : List Input) (input : s.inputs = .txDone success :: rest) :
      StepEffect s (txDone success (s.beginStep rest))
  | reset (rest : List Input) (input : s.inputs = .reset :: rest) : StepEffect s (resetEvent (s.beginStep rest))

/-- `step` stays within the effects listed. -/
theorem step_effect {s t : State} (h : step s = .next t) : StepEffect s t := by
  obtain ⟨input, hs⟩ | ⟨e, rest, input, hs⟩ := nextStep_cases s
  · cases hs.symm.trans h
    exact .none input
  have hr : runInput e (s.beginStep rest) = .next t := hs.symm.trans h
  cases e with
  | hostRead a => cases hr; exact .read a rest input
  | hostWrite a w =>
    by_cases ha : a = 1
    · subst ha
      rw [step_of_write_cmd input, runCommand] at h
      cases hd : decode w with
      | command i =>
        rw [hd] at h
        exact .command w i rest t input (State.nextCommand_of_command input hd) (exec_effect h)
      | illegal kind =>
        rw [hd] at h
        cases h
        exact .illegal w rest input
    · cases (step_of_store input ha).symm.trans h
      exact .store a w rest _ _ input ha (storeTarget_effect a w (s.beginStep rest))
  | rxBatch l => cases hr; exact .batch l rest input
  | txDone success => cases hr; exact .done success rest input
  | reset => cases hr; exact .reset rest input

end Sys2Proof.Machine

namespace Sys2Proof.Machine

/-! ## The invariant (10_state.md R67) -/

theorem powerUp_inv (depth : BitVec 8) (draw : Nat) (lo : 64 ≤ depth.toNat) (hi : depth.toNat ≤ 192) :
    (State.powerUp depth draw).Inv where
  idleIsEmpty _ := ⟨rfl, rfl, rfl⟩
  pendingIsCached h := nomatch h
  armedIsUncached _ := rfl
  coolingHasTime h := nomatch h
  sessionIsConfigured h := absurd rfl h
  mailboxWithinCap h := nomatch h
  capWithinDepth := BitVec.le_refl _
  rxCountWithinDepth := Nat.zero_le _
  txCountBounded := ⟨Nat.zero_le _, Nat.zero_le _⟩
  busyIsComplete h := nomatch h
  untruncatedIsComplete _ := .inl rfl
  idleIsZero _ := ⟨rfl, rfl⟩
  cacheIsHit h := nomatch h
  depthLegal := ⟨lo, hi⟩
  memoryWf := powerUp_keeps_memory_wf depth draw

theorem resetEvent_inv {s : State} (h : s.Inv) : (resetEvent s).Inv :=
  { powerUp_inv s.depth (s.draws + 1) h.depthLegal.1 h.depthLegal.2 with }

theorem setErr_inv {s : State} (h : s.Inv) (e : ErrCode) : (s.setErr e).Inv := { h with }

theorem emitResume_inv {s : State} (h : s.Inv) : s.emitResume.Inv := { h with }

theorem reply_inv {s : State} (h : s.Inv) (r : BusResponse) : (s.reply r).Inv := { h with }

theorem beginStep_inv {s : State} (h : s.Inv) (rest : List Input) : (s.beginStep rest).Inv := { h with }

theorem commandStart_inv {s : State} (h : s.Inv) (rest : List Input) : (s.commandStart rest).Inv := { h with }

/-! ### The encoder -/

theorem encodeFrame_inv {s : State} (h : s.Inv) (notBusy : s.txBusy = false) : s.encodeFrame.Inv :=
  have count : (BitVec.ofNat 8 (encodedCount s.cap)).toNat = min s.cap.toNat 33 := by
    simp only [encodedCount, Config.frameSyms, BitVec.toNat_ofNat]
    omega
  have cap : s.cap.toNat ≤ s.depth.toNat := h.capWithinDepth
  { h with
    txCountBounded := by
      simp only [State.encodeFrame, BitVec.le_def, count]
      exact ⟨Nat.min_le_right _ _, (Nat.min_le_left _ _).trans cap⟩
    busyIsComplete := fun busy => absurd (notBusy.symm.trans busy) Bool.false_ne_true
    untruncatedIsComplete := fun whole => by
      have full : 33 ≤ encodedCount s.cap := Nat.not_lt.mp (of_decide_eq_false whole)
      refine .inr (BitVec.eq_of_toNat_eq (count.trans ?_))
      simp only [encodedCount, Config.frameSyms] at full
      simpa using full
    memoryWf := encodeFrame_keeps_memory_wf s h.memoryWf }

/-- A SEND that starts has symbols and no truncation, so it has all 33 of them. -/
theorem startTransmission_inv {s : State} (h : s.Inv) (symbols : s.txCount ≠ 0) (whole : s.txTrunc = false) :
    ({ s with txBusy := true, txFail := false }.emitTxGo s.txCount).Inv :=
  { h with busyIsComplete := fun _ => ⟨whole, (h.untruncatedIsComplete whole).resolve_left symbols⟩ }

theorem txDone_inv {s : State} (h : s.Inv) (success : Bool) : (txDone success s).Inv := by
  obtain ⟨-, e⟩ | ⟨-, e⟩ := txDone_cases success s <;> rw [e]
  · exact h
  · exact { h with busyIsComplete := nofun }

/-! ### The session -/

/-- A move of the session to a state x other than Idle, with what that state says of the cache and of LAST_HIT. -/
theorem enterSession_inv {s : State} (h : s.Inv) (configured : s.timingOk = true ∧ s.wmOk = true) {x : Session}
    {cacheValid lhValid : Bool} {cache lastHit : Word} (active : x ≠ .idle) (pending : x = .hitPending → cacheValid = true)
    (armed : x = .armed → cacheValid = false) (cooling : x = .coolingDown → lhValid = true)
    (hit : cacheValid = true → ∃ f, cache = decodedFrame f) :
    { s with session := x, cacheValid, cache, lhValid, lastHit : State }.Inv :=
  { h with
    idleIsEmpty := fun idle => absurd idle active
    pendingIsCached := pending
    armedIsUncached := armed
    coolingHasTime := cooling
    sessionIsConfigured := fun _ => configured
    idleIsZero := fun idle => absurd idle active
    cacheIsHit := hit }

theorem startListening_inv {s : State} (h : s.Inv) (idle : s.session = .idle) (timing : s.timingOk = true) (bands : s.wmOk = true) :
    { s with session := .armed }.Inv :=
  have ⟨_, uncached, _⟩ := h.idleIsEmpty idle
  enterSession_inv h ⟨timing, bands⟩ nofun nofun (fun _ => uncached) nofun h.cacheIsHit

theorem leaveCooldown_active (s : State) : s.leaveCooldown.session ≠ .idle := by
  simp only [State.leaveCooldown, State.emitResume_session]
  split <;> simp

theorem leaveCooldown_inv {s : State} (h : s.Inv) (cooling : s.session = .coolingDown) : s.leaveCooldown.Inv :=
  emitResume_inv <| enterSession_inv h (h.sessionIsConfigured (by simp [cooling])) (leaveCooldown_active s)
    (pending := by cases s.cacheValid <;> simp) (armed := by cases s.cacheValid <;> simp)
    (cooling := by cases s.cacheValid <;> simp) (hit := h.cacheIsHit)

theorem expire_inv {s : State} (h : s.Inv) (now : Word) : (expire now s).Inv := by
  obtain ⟨cooling, -, e⟩ | ⟨-, e⟩ := expire_cases now s <;> rw [e]
  · exact leaveCooldown_inv h cooling
  · exact h

theorem expire_active {s : State} (active : s.session ≠ .idle) (now : Word) : (expire now s).session ≠ .idle := by
  obtain ⟨-, -, e⟩ | ⟨-, e⟩ := expire_cases now s <;> rw [e]
  · exact leaveCooldown_active s
  · exact active

theorem emptyMailbox_inv {s : State} (h : s.Inv) (rxFrame : Word) : { s with mbFull := false, rxFrame }.Inv :=
  { h with
    idleIsEmpty := fun idle => ⟨rfl, (h.idleIsEmpty idle).2⟩
    mailboxWithinCap := nofun }

theorem resumeIfArmed_inv {s : State} (h : s.Inv) : (resumeIfArmed s).Inv := by
  obtain ⟨-, e⟩ | ⟨-, e⟩ := resumeIfArmed_cases s <;> rw [e]
  · exact emitResume_inv h
  · exact h

/-- Caching a hit takes Armed to HitPending, and keeps every other session state but Idle, in which no batch is drained. -/
theorem cacheHit_inv {s : State} (h : s.Inv) (active : s.session ≠ .idle) (f : Word) : (cacheHit f s).Inv := by
  obtain ⟨-, e⟩ | ⟨-, e⟩ := cacheHit_cases f s <;> rw [e]
  · exact { h with }
  · have hit : ∃ g, decodedFrame f = decodedFrame g := ⟨f, rfl⟩
    have moved := enterSession_inv h (h.sessionIsConfigured active)
      (x := if s.session = .armed then .hitPending else s.session) (cacheValid := true) (lhValid := s.lhValid)
      (lastHit := s.lastHit) (hit := fun _ => hit)
      (active := by split <;> simp [active]) (pending := fun _ => rfl) (armed := by split <;> simp_all)
      (cooling := by
        split
        · nofun
        · exact h.coolingHasTime)
    exact { moved with }

theorem drain_inv {s : State} (h : s.Inv) (active : s.session ≠ .idle) : (drain s).1.Inv := by
  obtain ⟨-, e⟩ | ⟨-, f, -, e⟩ | ⟨-, _, -, e⟩ := drain_cases s <;> rw [e]
  · exact h
  · exact resumeIfArmed_inv (cacheHit_inv (emptyMailbox_inv h s.rxFrame) active f)
  · exact resumeIfArmed_inv (emptyMailbox_inv h 0)

theorem advance_inv {s : State} (h : s.Inv) (active : s.session ≠ .idle) : (advance s).1.Inv :=
  drain_inv (expire_inv h s.now) (expire_active active s.now)

theorem deliver_inv {s : State} (h : s.Inv) (now : Word) : (deliver now s).1.Inv := by
  obtain ⟨pending, e⟩ | ⟨-, e⟩ := deliver_cases now s <;> rw [e]
  · have moved := enterSession_inv h (h.sessionIsConfigured (by simp [pending])) (x := .coolingDown) (cacheValid := false)
      (cache := s.cache) (lastHit := now) nofun nofun nofun (fun _ => rfl) nofun
    exact { moved with }
  · exact { h with }

theorem teardown_inv {s : State} (h : s.Inv) :
    { s with session := .idle, mbFull := false, cacheValid := false, cache := 0, lhValid := false, lastHit := 0 }.Inv :=
  { h with
    idleIsEmpty := fun _ => ⟨rfl, rfl, rfl⟩
    pendingIsCached := nofun
    armedIsUncached := nofun
    coolingHasTime := nofun
    sessionIsConfigured := fun active => absurd rfl active
    mailboxWithinCap := nofun
    idleIsZero := fun _ => ⟨rfl, rfl⟩
    cacheIsHit := nofun }

/-! ### The host port and the receiver -/

/-- The field rule of CAP and RX_COUNT is a minimum (R48, R59). -/
theorem clampToDepth_eq_min (depth : BitVec 8) (w : Word) :
    clampToDepth depth w = BitVec.ofNat 8 (min (w.toNat % 256) depth.toNat) := by
  have low : (w.extractLsb' 0 8).toNat = w.toNat % 256 := by simp
  apply BitVec.eq_of_toNat_eq
  unfold clampToDepth
  have hd := depth.isLt
  split
  all_goals
    next h =>
      rw [BitVec.le_def, low] at h
      simp only [low, BitVec.toNat_ofNat]
      omega

theorem clampToDepth_le (depth : BitVec 8) (w : Word) : clampToDepth depth w ≤ depth := by
  unfold clampToDepth
  split
  · next h => exact h
  · exact BitVec.le_refl _

/-- In Idle the configuration is free: the mailbox is empty and no session needs valid bands. -/
theorem configure_inv {s : State} (h : s.Inv) (idle : s.session = .idle) (timStart timBits wmStart wmOne wmZero wmGap : Word)
    (rxCount cap : BitVec 8) (rxWithin : rxCount ≤ s.depth) (capWithin : cap ≤ s.depth) :
    { s with timStart, timBits, wmStart, wmOne, wmZero, wmGap, rxCount, cap }.Inv :=
  have ⟨empty, _, _⟩ := h.idleIsEmpty idle
  { h with
    sessionIsConfigured := fun active => absurd idle active
    mailboxWithinCap := fun full => absurd (empty.symm.trans full) Bool.false_ne_true
    capWithinDepth := capWithin
    rxCountWithinDepth := rxWithin }

theorem storeReg_inv_of_idle {s : State} (h : s.Inv) (idle : s.session = .idle) (w : Word) (r : Reg) : (storeReg s w r).Inv := by
  have rx := h.rxCountWithinDepth
  have cap := h.capWithinDepth
  have clamp := clampToDepth_le s.depth w
  cases r with
  | rxCount => exact configure_inv h idle _ _ _ _ _ _ _ _ clamp cap
  | cap => exact configure_inv h idle _ _ _ _ _ _ _ _ rx clamp
  | timStart | timBits | wmStart | wmOne | wmZero | wmGap => exact configure_inv h idle _ _ _ _ _ _ _ _ rx cap
  | _ => exact { h with }

theorem storeReg_inv_of_rw {s : State} (h : s.Inv) (w : Word) {r : Reg} (rw : r.access = .rw) : (storeReg s w r).Inv := by
  cases r with
  | now | sym | frame => exact { h with }
  | _ => cases rw

theorem storeEffect_inv {a : BitVec 10} {w : Word} {s t : State} (h : s.Inv) (effect : StoreEffect a w s t) : t.Inv := by
  cases effect with
  | ignored => exact h
  | stored r _ writable =>
    obtain rw | ⟨-, idle⟩ := writable
    · exact storeReg_inv_of_rw h w rw
    · exact storeReg_inv_of_idle h idle w r
  | buffered _ _ => exact { h with memoryWf := by simpa [Memory.wf] using h.memoryWf }
  | locked _ _ => exact { h with }

theorem acceptBatch_inv {s : State} (h : s.Inv) (active : s.session ≠ .idle) (l : List Word) : (acceptBatch l s).Inv :=
  have count : (BitVec.ofNat 8 (min l.length s.cap.toNat)).toNat ≤ s.cap.toNat := by
    simp only [BitVec.toNat_ofNat]
    omega
  { h with
    idleIsEmpty := fun idle => absurd idle active
    mailboxWithinCap := fun _ => count
    rxCountWithinDepth := le_trans count h.capWithinDepth
    memoryWf := by simpa [Memory.wf, acceptBatch] using h.memoryWf }

theorem rxBatch_inv {s : State} (h : s.Inv) (l : List Word) : (rxBatch l s).Inv := by
  obtain ⟨-, e⟩ | ⟨active, -, e⟩ := rxBatch_cases l s <;> rw [e]
  · exact { h with }
  · exact acceptBatch_inv h active l

/-! ### Every step -/

theorem commandEffect_inv {i : Instr} {s t : State} (h : s.Inv) (effect : CommandEffect s i t) : t.Inv := by
  cases effect with
  | encode e notBusy => exact setErr_inv (encodeFrame_inv h notBusy) e
  | send e symbols _ whole => exact setErr_inv (startTransmission_inv h symbols whole) e
  | arm e idle timing bands => exact setErr_inv (emitResume_inv (startListening_inv h idle timing bands)) e
  | tick e active => exact setErr_inv (advance_inv h active) e
  | poll e active => exact setErr_inv (deliver_inv (advance_inv h active) s.now) e
  | cancel e cooling => exact setErr_inv (leaveCooldown_inv h cooling) e
  | teardown e => exact setErr_inv (teardown_inv h) e
  | report | quant | dequant | unpack | pack | packs | classify | decode | clrerr => exact { h with }

theorem step_inv {s t : State} (h : s.Inv) (hs : step s = .next t) : t.Inv := by
  cases step_effect hs with
  | none => exact beginStep_inv h []
  | read a rest => exact { h with }
  | store a w rest u r _ _ effect => exact reply_inv (storeEffect_inv (beginStep_inv h rest) effect) r
  | command w i rest _ _ _ effect => exact commandEffect_inv (commandStart_inv h rest) effect
  | illegal w rest => exact setErr_inv (commandStart_inv h rest) _
  | batch l rest => exact rxBatch_inv (beginStep_inv h rest) l
  | done success rest => exact txDone_inv (beginStep_inv h rest) success
  | reset rest => exact resetEvent_inv (beginStep_inv h rest)

/-- Settles O48: each kind of step keeps the invariant. -/
theorem everyStepKeepsTheInvariant : Obligations.EveryStepKeepsTheInvariant :=
  fun _ _ h hs => step_inv h hs

/-- Settles O49. -/
theorem resetSatisfiesTheInvariant : Obligations.ResetSatisfiesTheInvariant :=
  ⟨powerUp_inv, powerUp_inv _ _ (by decide) (by decide)⟩

end Sys2Proof.Machine

namespace Sys2Proof.Machine

/-! ## Which step writes what -/

theorem storeReg_err (s : State) (w : Word) (r : Reg) : (storeReg s w r).err = s.err := by
  cases r <;> rfl

theorem storeEffect_err {a : BitVec 10} {w : Word} {s t : State} (effect : StoreEffect a w s t) : t.err = s.err := by
  cases effect with
  | ignored | buffered | locked => rfl
  | stored r => exact storeReg_err s w r

theorem rxBatch_err (l : List Word) (s : State) : (rxBatch l s).err = s.err := by
  obtain ⟨-, h⟩ | ⟨-, -, h⟩ := rxBatch_cases l s <;> rw [h]; rfl

theorem txDone_err (success : Bool) (s : State) : (txDone success s).err = s.err := by
  obtain ⟨-, h⟩ | ⟨-, h⟩ := txDone_cases success s <;> rw [h]

/-- Settles O52: a step that is neither a write to CMD nor reset leaves ERR as it found it. -/
theorem onlyCommandsAndResetWriteErr : Obligations.OnlyCommandsAndResetWriteErr := by
  intro s t hs
  cases step_effect hs with
  | none input => exact ⟨fun _ _ => rfl, by simp [State.nextInput, input]⟩
  | read a rest input => exact ⟨fun _ _ => rfl, by simp [State.nextInput, input]⟩
  | store a w rest u r input _ effect =>
    exact ⟨fun _ _ => by simpa using storeEffect_err effect, by simp [State.nextInput, input]⟩
  | command w i rest _ input | illegal w rest input =>
    have next := State.nextInput_of_cons input
    exact ⟨fun noCommand => absurd next (noCommand w), by simp [next]⟩
  | batch l rest input => exact ⟨fun _ _ => rxBatch_err l _, by simp [State.nextInput, input]⟩
  | done success rest input => exact ⟨fun _ _ => txDone_err success _, by simp [State.nextInput, input]⟩
  | reset rest input =>
    exact ⟨fun _ notReset => absurd (State.nextInput_of_cons input) notReset, fun _ => ⟨rfl, rfl, rfl⟩⟩

/-- No command writes the configuration (R23). -/
theorem commandEffect_configuration {i : Instr} {s t : State} (effect : CommandEffect s i t) :
    t.configuration = s.configuration := by
  cases effect with
  | tick =>
    obtain ⟨_, _, _, _, _, -, h⟩ := advance_frame s
    rw [h]
    rfl
  | poll =>
    obtain ⟨_, _, _, _, _, _, _, _, -, h⟩ := poll_frame s
    rw [h]
    rfl
  | _ => rfl

theorem storeReg_configuration_of_rw {s : State} {w : Word} {r : Reg} (rw : r.access = .rw) :
    (storeReg s w r).configuration = s.configuration := by
  cases r with
  | now | sym | frame => rfl
  | _ => cases rw

theorem storeEffect_configuration {a : BitVec 10} {w : Word} {s t : State} (effect : StoreEffect a w s t)
    (active : s.session ≠ .idle) : t.configuration = s.configuration := by
  cases effect with
  | ignored | buffered | locked => rfl
  | stored r _ writable => exact storeReg_configuration_of_rw (writable.resolve_right fun h => active h.2)

theorem rxBatch_configuration (l : List Word) (s : State) : (rxBatch l s).configuration = s.configuration := by
  obtain ⟨-, h⟩ | ⟨-, -, h⟩ := rxBatch_cases l s <;> rw [h] <;> rfl

theorem txDone_configuration (success : Bool) (s : State) : (txDone success s).configuration = s.configuration := by
  obtain ⟨-, h⟩ | ⟨-, h⟩ := txDone_cases success s <;> rw [h]; rfl

/-- Settles O53: of the steps other than reset only a store writes the configuration, and outside Idle it is locked. -/
theorem configurationChangesOnlyInIdle : Obligations.ConfigurationChangesOnlyInIdle := by
  intro s t hs changed
  cases step_effect hs with
  | none | read | illegal => exact absurd rfl changed
  | store a w rest u r input notCmd effect =>
    by_cases idle : s.session = .idle
    · exact .inr ⟨idle, a, w, notCmd, State.nextInput_of_cons input⟩
    · exact absurd (storeEffect_configuration effect idle) changed
  | command w i rest _ _ _ effect => exact absurd (commandEffect_configuration effect) changed
  | batch l rest => exact absurd (rxBatch_configuration l _) changed
  | done success rest => exact absurd (txDone_configuration success _) changed
  | reset rest input => exact .inl (State.nextInput_of_cons input)

/-- INFO.DEPTH and the registers and flags that are no part of the configuration, STATE and ERR apart (R24, R29). -/
def State.ownedRegisters (s : State) : List (BitVec 8) × List Word × BitVec 16 × List (List Word) × List Bool :=
  ([s.depth, s.txCount, s.rxCount], [s.result, s.now, s.sym, s.rxFrame, s.hit, s.lastHit, s.cache], s.frame,
    [s.txBuf, s.rxBuf],
    [s.cacheValid, s.mbFull, s.lhValid, s.txBusy, s.txTrunc, s.txFail, s.rxTrunc, s.rxDrop, s.wlock])

/-- Settles O54: a step that changes one of the registers is of a kind that writes it. -/
theorem registersChangeOnlyByTheirWriters : Obligations.RegistersChangeOnlyByTheirWriters := by
  intro s t hs notReset
  by_cases same : t.ownedRegisters = s.ownedRegisters
  · simp only [State.ownedRegisters, Prod.mk.injEq, List.cons.injEq] at same
    simp +contextual [same]
  cases step_effect hs with
  | none | read | illegal => exact absurd rfl same
  | store a w rest u r input _ effect =>
    have next := State.nextInput_of_cons input
    cases effect with
    | ignored => exact absurd rfl same
    | stored r place writable =>
      have index := index_of_register place
      cases r with
      | now | sym | frame => simp +contextual [storeReg, next, index, registerMap]
      | rxCount =>
        have idle : s.session = .idle := by simpa [Reg.access] using writable
        simp +contextual [storeReg, next, index, idle, registerMap]
      | _ => simp [State.ownedRegisters, storeReg] at same
    | buffered idle place =>
      have idle : s.session = .idle := idle
      have place : 0x200 ≤ a.toNat ∧ a.toNat < 0x200 + s.depth.toNat := place
      simp +contextual [next, idle, place]
    | locked active place =>
      have active : s.session ≠ .idle := active
      have place := (lockedIndex_iff s.depth a).mp place
      simpa +contextual [next, active] using fun _ : s.wlock = false => place
  | command w i rest _ _ legal effect =>
    cases effect with
    | report | arm | cancel => exact absurd rfl same
    | encode => simp +contextual [legal, State.encodeFrame]
    | tick =>
      obtain ⟨_, _, _, _, _, keepsHit, h⟩ := advance_frame (s.commandStart rest)
      simpa +contextual [h, legal] using keepsHit
    | poll =>
      obtain ⟨_, _, _, _, _, _, _, _, keepsTime, h⟩ := poll_frame (s.commandStart rest)
      rw [h]
      simpa +contextual [legal] using keepsTime
    | _ => simp +contextual [legal]
  | batch l rest input =>
    obtain ⟨refused, h⟩ | ⟨active, empty, h⟩ := rxBatch_cases l (s.beginStep rest) <;> rw [h]
    · have refused : s.session = .idle ∨ s.mbFull = true := refused
      simp +contextual [State.nextInput_of_cons input, refused]
    · have accepts : s.acceptsBatch = true := by
        simpa [State.acceptsBatch, input] using And.intro active empty
      simp +contextual [acceptBatch, accepts]
  | done success rest input =>
    obtain ⟨-, h⟩ | ⟨busy, h⟩ := txDone_cases success (s.beginStep rest)
    · rw [h] at same
      exact absurd rfl same
    · have busy : s.txBusy = true := busy
      rw [h]
      cases success <;> simp +contextual [State.nextInput_of_cons input, busy]
  | reset rest input => exact absurd (State.nextInput_of_cons input) notReset

end Sys2Proof.Machine

namespace Sys2Proof.Machine

/-! ## Commands and accesses of the host -/

/-- Settles O7. -/
theorem stepRunsDecodedCommand : Obligations.StepRunsDecodedCommand := by
  intro s rest w i input decoded
  rw [step_of_write_cmd input, runCommand, decoded]

/-- A write away from CMD is answered by the part of the map that it selects. -/
theorem step_of_write {s : State} {a : BitVec 10} {w : Word} {rest : List Input} {p : Target}
    (input : s.inputs = .hostWrite a w :: rest) (notCmd : a ≠ 1) (place : target s.depth a = p) :
    step s = .next ((storeTarget (s.beginStep rest) w p).reply p.response) := by
  rw [step_of_store input notCmd, ← place]
  rfl

theorem ne_cmd_of_access {a : BitVec 10} {r : Reg} (place : registerMap[a.toNat]? = some r) (h : r.access ≠ .wo) : a ≠ 1 := by
  rintro rfl
  cases place
  exact h rfl

theorem storeReg_reply (s : State) (w : Word) (r : Reg) (b : BusResponse) :
    (storeReg s w r).reply b = storeReg (s.reply b) w r := by
  cases r <;> rfl

theorem unlessLocked_of_idle {s : State} (idle : s.session = .idle) (stored : State) : unlessLocked s stored = stored :=
  if_pos idle

theorem unlessLocked_of_active {s : State} (active : s.session ≠ .idle) (stored : State) :
    unlessLocked s stored = { s with wlock := true } :=
  if_neg active

section write

variable {s : State} {a : BitVec 10} {w : Word} {rest : List Input} {r : Reg}

theorem step_of_readOnly_write (input : s.inputs = .hostWrite a w :: rest)
    (readOnly : registerMap[a.toNat]?.map Reg.access = some .ro) : step s = .next (s.commandStart rest) := by
  obtain ⟨r, place, access⟩ := Option.map_eq_some_iff.mp readOnly
  rw [step_of_write input (ne_cmd_of_access place (by simp [access])) (target_of_register place),
    (storeTarget_reg _ w r).1 (.inl access)]
  rfl

theorem step_of_register_write (input : s.inputs = .hostWrite a w :: rest) (place : registerMap[a.toNat]? = some r)
    (writable : r.access = .rw ∨ r.access = .rwl ∧ s.session = .idle) :
    step s = .next (storeReg (s.commandStart rest) w r) := by
  have notCmd : a ≠ 1 := ne_cmd_of_access place (by rcases writable with h | ⟨h, -⟩ <;> simp [h])
  obtain ⟨-, plain, lockable⟩ := storeTarget_reg (s.beginStep rest) w r
  have stored : storeTarget (s.beginStep rest) w (.reg r) = storeReg (s.beginStep rest) w r := by
    obtain access | ⟨access, idle⟩ := writable
    · exact plain access
    · exact (lockable access).trans (unlessLocked_of_idle (s := s.beginStep rest) idle _)
  rw [step_of_write input notCmd (target_of_register place), stored, storeReg_reply]
  rfl

theorem step_of_rxBuf_write (input : s.inputs = .hostWrite a w :: rest)
    (place : 0x200 ≤ a.toNat ∧ a.toNat < 0x200 + s.depth.toNat) :
    step s = .next ((unlessLocked (s.beginStep rest)
      { s.beginStep rest with rxBuf := writeWord s.rxBuf (a.toNat - 0x200) w }).reply .ok) := by
  have notCmd : a ≠ 1 := by
    rintro rfl
    exact absurd place.1 (by decide)
  rw [step_of_write input notCmd (target_of_rxBuf place)]
  rfl

theorem step_of_locked_write (input : s.inputs = .hostWrite a w :: rest) (active : s.session ≠ .idle)
    (locked : lockedIndex s.depth a) : step s = .next { s.commandStart rest with wlock := true } := by
  obtain register | place := locked
  · obtain ⟨r, place, access⟩ := Option.map_eq_some_iff.mp register
    rw [step_of_write input (ne_cmd_of_access place (by simp [access])) (target_of_register place),
      (storeTarget_reg _ w r).2.2 access, unlessLocked_of_active (s := s.beginStep rest) active]
    rfl
  · rw [step_of_rxBuf_write input place, unlessLocked_of_active (s := s.beginStep rest) active]
    rfl

end write

/-- Settles O58. -/
theorem readOnlyAndLockedWritesStoreNothing : Obligations.ReadOnlyAndLockedWritesStoreNothing := by
  intro s rest a w input
  constructor
  · rintro (readOnly | place)
    · exact step_of_readOnly_write input ((access_at_index _).1.mpr readOnly)
    · have notCmd : a ≠ 1 := by
        rintro rfl
        exact absurd place.1 (by decide)
      exact step_of_write input notCmd (target_of_txBuf place)
  · intro active locked
    exact step_of_locked_write input active ((lockedIndex_iff s.depth a).mpr locked)

/-- Settles O59: the write goes to the register that the map has at its index. -/
theorem hostWriteStoresTheField : Obligations.HostWriteStoresTheField := by
  rintro s rest a w u input rfl
  have write : ∀ r : Reg, r.access = .rw ∨ r.access = .rwl ∧ s.session = .idle →
      a = BitVec.ofNat 10 (registerMap.idxOf r) → step s = .next (storeReg (s.commandStart rest) w r) := by
    intro r writable index
    refine step_of_register_write input ?_ writable
    rw [registerMap_eq_some_iff, index]
    cases r <;> rfl
  refine ⟨write .now (.inl rfl), write .sym (.inl rfl), write .frame (.inl rfl), fun idle => ?_⟩
  have clamp := clampToDepth_eq_min s.depth w
  refine ⟨?_, write .timStart (.inr ⟨rfl, idle⟩), write .timBits (.inr ⟨rfl, idle⟩), write .wmStart (.inr ⟨rfl, idle⟩),
    write .wmOne (.inr ⟨rfl, idle⟩), write .wmZero (.inr ⟨rfl, idle⟩), write .wmGap (.inr ⟨rfl, idle⟩),
    write .cooldown (.inr ⟨rfl, idle⟩), ?_, write .self (.inr ⟨rfl, idle⟩)⟩
  · rw [← clamp]
    exact write .rxCount (.inr ⟨rfl, idle⟩)
  · rw [← clamp]
    exact write .cap (.inr ⟨rfl, idle⟩)

/-- Settles O60. -/
theorem hostWritesOneRxBufWord : Obligations.HostWritesOneRxBufWord := by
  intro s rest i w idle inDepth inBuf input
  have depth : s.depth.toNat < 256 := s.depth.isLt
  have index : (BitVec.ofNat 10 (0x200 + i)).toNat = 0x200 + i := by
    rw [BitVec.toNat_ofNat]
    omega
  have hs := step_of_rxBuf_write input (by omega)
  rw [unlessLocked_of_idle (s := s.beginStep rest) idle, index, Nat.add_sub_cancel_left] at hs
  refine ⟨_, hs, rfl, writeWord_length .., fun j => ?_⟩
  split
  · next h =>
      subst h
      exact readWord_writeWord_same _ _ _ inBuf
  · next h => exact readWord_writeWord_other _ _ _ _ (Ne.symm h)

/-- A read returns the word at the selected place, with the response OK wherever something is mapped (R72, R73). -/
theorem step_of_read {s : State} {a : BitVec 10} {rest : List Input} {p : Target} (input : s.inputs = .hostRead a :: rest)
    (place : target s.depth a = p) :
    step s = .next { s.beginStep rest with
      outputs := { Outputs.quiet with bus := some p.response, readData := some (readTarget s p) } } := by
  subst place
  rw [step_of_cons input]
  simp only [runInput, hostRead, State.beginStep_depth]
  cases target s.depth a with
  | reg r => cases r <;> rfl
  | txWord | rxWord | unmapped => rfl

/-- Settles O56: the registers are read by their place in the map. -/
theorem hostReadReturnsTheWord : Obligations.HostReadReturnsTheWord := by
  rintro s rest a v input (register | ⟨i, inDepth, index, rfl⟩ | ⟨i, inDepth, index, rfl⟩)
  · have wide : ∀ x : BitVec 8, 0#24 ++ x = x.setWidth 32 := fun _ => (BitVec.setWidth_eq_append (by decide)).symm
    simp only [wide] at register
    have listed : (a.toNat, v) ∈ registerMap.zipIdx.map (fun q => (q.2, readReg s q.1)) := register
    obtain ⟨⟨r, n⟩, mem, word⟩ := List.mem_map.mp listed
    cases word
    exact step_of_read input (target_of_register (List.mem_zipIdx_iff_getElem?.mp mem))
  · have hs := step_of_read input (target_of_txBuf (by omega))
    rwa [index, Nat.add_sub_cancel_left] at hs
  · have hs := step_of_read input (target_of_rxBuf (by omega))
    rwa [index, Nat.add_sub_cancel_left] at hs

/-! ## The STATUS word (10_state.md R29) -/

/-- The flags of STATUS, each at its bit. -/
theorem statusWord_flags (s : State) :
    s.statusWord.getLsbD 2 = s.cacheValid ∧ s.statusWord.getLsbD 3 = s.mbFull ∧ s.statusWord.getLsbD 4 = s.lhValid ∧
      s.statusWord.getLsbD 5 = s.txBusy ∧ s.statusWord.getLsbD 6 = s.txTrunc ∧ s.statusWord.getLsbD 7 = s.txFail ∧
      s.statusWord.getLsbD 8 = s.timingOk ∧ s.statusWord.getLsbD 9 = s.wmOk ∧ s.statusWord.getLsbD 10 = s.rxTrunc ∧
      s.statusWord.getLsbD 11 = s.rxDrop ∧ s.statusWord.getLsbD 12 = s.wlock := by
  simp only [State.statusWord, BitVec.getLsbD_append, BitVec.getLsbD_ofBool]
  simp

/-- The fields of STATUS that are wider than a bit, and its reserved bits. -/
theorem statusWord_fields (s : State) :
    s.statusWord.extractLsb' 0 2 = s.session.code ∧ s.statusWord.extractLsb' 13 3 = 0 ∧
      s.statusWord.extractLsb' 16 4 = s.err.code ∧ s.statusWord.extractLsb' 20 12 = 0 := by
  unfold State.statusWord
  refine ⟨BitVec.extractLsb'_append_eq_right, ?_, ?_, ?_⟩ <;>
    repeat rw [BitVec.extractLsb'_append_eq_of_le (by decide)]
  · exact BitVec.extractLsb'_append_eq_right
  · exact BitVec.extractLsb'_append_eq_right
  · rfl

/-- Settles O57. -/
theorem statusWordLayout : Obligations.StatusWordLayout := by
  constructor
  · intro s
    obtain ⟨f2, f3, f4, f5, f6, f7, f8, f9, f10, f11, f12⟩ := statusWord_flags s
    obtain ⟨state, reserved, err, upper⟩ := statusWord_fields s
    refine ⟨state.trans ?_, f2, f3, f4, f5, f6, f7, f8, f9, f10, f11, f12, reserved, err.trans ?_, upper⟩
    · cases s.session <;> rfl
    · cases s.err <;> rfl
  · intro s rest w input
    exact step_of_readOnly_write input rfl

theorem timingOk_iff (s : State) : s.timingOk = true ↔
    lowHalf s.timStart ≠ 0 ∧ highHalf s.timStart ≠ 0 ∧ lowHalf s.timBits ≠ 0 ∧ highHalf s.timBits ≠ 0 := by
  simp [State.timingOk, State.timing, and_assoc]

theorem wmOk_iff (s : State) : s.wmOk = true ↔
    lowHalf s.wmStart ≤ highHalf s.wmStart ∧ lowHalf s.wmOne ≤ highHalf s.wmOne ∧
      lowHalf s.wmZero ≤ highHalf s.wmZero ∧ lowHalf s.wmGap ≤ highHalf s.wmGap ∧
      highHalf s.wmOne < lowHalf s.wmStart ∧ highHalf s.wmZero < lowHalf s.wmOne ∧ highHalf s.wmGap < lowHalf s.wmZero := by
  simp only [State.wmOk, Bands.ok, State.bands, Bool.and_eq_true, bandOrdered_iff, bandAbove_iff, and_assoc]

theorem statusWord_timingOk (s : State) : s.statusWord.getLsbD 8 = s.timingOk := by
  obtain ⟨-, -, -, -, -, -, bit8, -⟩ := statusWord_flags s
  exact bit8

theorem statusWord_wmOk (s : State) : s.statusWord.getLsbD 9 = s.wmOk := by
  obtain ⟨-, -, -, -, -, -, -, bit9, -⟩ := statusWord_flags s
  exact bit9

/-- The flags that are computed have their reset values: the timing is set, the bands are not (R37, R38). -/
theorem powerUp_computed_flags (depth : BitVec 8) (draw : Nat) :
    (State.powerUp depth draw).timingOk = true ∧ (State.powerUp depth draw).wmOk = false :=
  ⟨show State.reset.timingOk = true by decide, rfl⟩

/-- Settles O23. -/
theorem timingOkMeansPositiveDurations : Obligations.TimingOkMeansPositiveDurations := by
  refine ⟨fun s => ?_, fun depth draw => ?_⟩ <;> rw [statusWord_timingOk]
  · exact timingOk_iff s
  · exact (powerUp_computed_flags depth draw).1

/-- Settles O24. -/
theorem wmOkMeansOrderedBands : Obligations.WmOkMeansOrderedBands := by
  refine ⟨fun s => ?_, fun depth draw => ?_⟩ <;> rw [statusWord_wmOk]
  · exact wmOk_iff s
  · exact (powerUp_computed_flags depth draw).2

/-! ## Reset (10_state.md R68) -/

/-- No register shows the inputs to come or the outputs of a step. -/
theorem readReg_unobserved (s : State) (inputs : List Input) (outputs : Outputs) (r : Reg) :
    readReg { s with inputs, outputs } r = readReg s r := by
  cases r <;> rfl

theorem powerUp_reads (depth : BitVec 8) (draw : Nat) :
    ∀ p ∈ resetReads depth, readReg (State.powerUp depth draw) p.1 = p.2 := by
  have status : (State.powerUp depth draw).statusWord = 0x00000100#32 :=
    show State.reset.statusWord = 0x00000100#32 by decide
  have frame : (State.powerUp depth draw).frameWord = 0 := show State.reset.frameWord = 0 by decide
  have self : (State.powerUp depth draw).selfWord = 0 := show State.reset.selfWord = 0 by decide
  have cap : depth.setWidth 32 = 0#24 ++ depth := BitVec.setWidth_eq_append (by decide)
  simp only [resetReads, List.forall_mem_cons]
  exact ⟨rfl, rfl, status, rfl, rfl, rfl, frame, rfl, rfl, rfl, rfl, rfl, rfl, rfl, rfl, rfl, rfl, rfl, rfl, cap, self, nofun⟩

theorem powerUp_flagsAreReset (depth : BitVec 8) (draw : Nat) : (State.powerUp depth draw).flagsAreReset :=
  ⟨rfl, rfl, rfl, rfl, rfl, rfl, rfl, rfl, rfl, rfl, rfl, rfl⟩

/-- A done event with no transmission in progress only takes its input (70_reset_and_hazards.md R186). -/
theorem step_of_stray_done {s : State} {success : Bool} {rest : List Input} (input : s.inputs = .txDone success :: rest)
    (notBusy : s.txBusy = false) : step s = .next (s.beginStep rest) := by
  rw [step_of_cons input]
  obtain ⟨-, h⟩ | ⟨busy, -⟩ := txDone_cases success (s.beginStep rest)
  · exact congrArg Host.Outcome.next h
  · exact absurd (notBusy.symm.trans busy) Bool.false_ne_true

/-- Settles O50: the reset step leaves the power-on state, with the inputs to come and no output. -/
theorem resetRegisterValues : Obligations.ResetRegisterValues := by
  refine ⟨fun depth draw => ⟨powerUp_reads depth draw, powerUp_flagsAreReset depth draw⟩, fun s rest input => ?_⟩
  refine ⟨_, step_of_cons input, rfl, rfl, powerUp_flagsAreReset s.depth (s.draws + 1), fun p hp => ?_, ?_⟩
  · exact (readReg_unobserved _ rest Outputs.quiet p.1).trans (powerUp_reads s.depth _ p hp)
  · intro success later input'
    exact step_of_stray_done input' rfl

end Sys2Proof.Machine

namespace Sys2Proof.Machine

/-! ## Every command ends -/

/-- A refusal ends a command too. -/
theorem guarded_ends {c : Prop} [Decidable c] {s : State} {e : ErrCode} {o : Host.Outcome State Fault Refusal}
    (h : ∃ t, o = .next t) : ∃ t, (if c then finish s e else o) = .next t := by
  split
  · exact ⟨_, finish_next s e⟩
  · exact h

/-- Every command ends with a next state: none faults and none is refused (60_exceptions.md R171). -/
theorem exec_ends (i : Instr) (s : State) : ∃ t, exec i s = .next t := by
  cases i with
  | nop | quant | dequant | pack | unpack | packs | teardown | clrerr => exact ⟨_, rfl⟩
  | classify | tick | poll | cancel => exact guarded_ends ⟨_, rfl⟩
  | encode | arm => exact guarded_ends (guarded_ends ⟨_, rfl⟩)
  | send => exact guarded_ends (guarded_ends (guarded_ends ⟨_, rfl⟩))
  | decode =>
    refine guarded_ends ?_
    cases s.decodeReceived <;> exact ⟨_, rfl⟩

/-! ## The bus response (20_memory.md R72) -/

theorem expire_bus (now : Word) (s : State) : (expire now s).outputs.bus = s.outputs.bus := by
  obtain ⟨-, -, h⟩ | ⟨-, h⟩ := expire_cases now s <;> rw [h]; rfl

theorem resumeIfArmed_bus (s : State) : (resumeIfArmed s).outputs.bus = s.outputs.bus := by
  obtain ⟨-, h⟩ | ⟨-, h⟩ := resumeIfArmed_cases s <;> rw [h]; rfl

theorem cacheHit_outputs (f : Word) (s : State) : (cacheHit f s).outputs = s.outputs := by
  obtain ⟨_, _, h⟩ := cacheHit_frame f s
  rw [h]

theorem drain_bus (s : State) : (drain s).1.outputs.bus = s.outputs.bus := by
  obtain ⟨-, h⟩ | ⟨-, f, -, h⟩ | ⟨-, e, -, h⟩ := drain_cases s <;> rw [h]
  · rw [resumeIfArmed_bus, cacheHit_outputs]
  · rw [resumeIfArmed_bus]

theorem advance_bus (s : State) : (advance s).1.outputs.bus = s.outputs.bus :=
  (drain_bus _).trans (expire_bus s.now s)

theorem deliver_outputs (now : Word) (s : State) : (deliver now s).1.outputs = s.outputs := by
  obtain ⟨_, _, _, _, _, -, h⟩ := deliver_frame now s
  rw [h]

/-- A command keeps the bus response that its write already has. -/
theorem commandEffect_bus {i : Instr} {s t : State} (effect : CommandEffect s i t) : t.outputs.bus = s.outputs.bus := by
  cases effect with
  | tick => exact advance_bus s
  | poll => exact (congrArg Outputs.bus (deliver_outputs s.now _)).trans (advance_bus s)
  | _ => rfl

theorem runCommand_bus (w : Word) (s : State) : ∃ t, runCommand w s = .next t ∧ t.outputs.bus = s.outputs.bus := by
  unfold runCommand
  cases decode w with
  | command i =>
    obtain ⟨t, h⟩ := exec_ends i s
    exact ⟨t, h, commandEffect_bus (exec_effect h)⟩
  | illegal => exact ⟨_, rfl, rfl⟩

theorem target_response_of_mapped {depth : BitVec 8} {a : BitVec 10} (mapped : mappedIndex depth a) :
    (target depth a).response = .ok := by
  obtain ⟨r, -, h⟩ | ⟨-, h⟩ | ⟨-, h⟩ | ⟨unmapped, -⟩ := target_cases depth a
  · exact congrArg Target.response h
  · exact congrArg Target.response h
  · exact congrArg Target.response h
  · exact absurd mapped unmapped

theorem cmd_mapped (depth : BitVec 8) : mappedIndex depth 1 := .inl (by decide)

/-- Whatever a host write does, it is answered; a write to CMD is answered before its command runs (R74). -/
theorem step_of_write_bus {s : State} {a : BitVec 10} {w : Word} {rest : List Input}
    (input : s.inputs = .hostWrite a w :: rest) :
    ∃ t, step s = .next t ∧ t.outputs.bus = some (target s.depth a).response := by
  by_cases cmd : a = 1
  · subst cmd
    rw [step_of_write_cmd input, target_response_of_mapped (cmd_mapped s.depth)]
    exact runCommand_bus w (s.commandStart rest)
  · exact ⟨_, step_of_store input cmd, rfl⟩

/-- Settles O55. -/
theorem unmappedAccessGetsBusErr : Obligations.UnmappedAccessGetsBusErr := by
  intro s rest a w
  refine ⟨fun unmapped => ⟨fun input => ?_, fun input => ?_⟩, ?_⟩
  · exact step_of_read input (target_of_unmapped unmapped)
  · have notCmd : a ≠ 1 := fun cmd => unmapped (cmd ▸ cmd_mapped s.depth)
    exact step_of_write input notCmd (target_of_unmapped unmapped)
  · rintro mapped (input | input) <;> have answer := target_response_of_mapped mapped
    · exact ⟨_, step_of_read input rfl, congrArg some answer⟩
    · obtain ⟨t, hs, bus⟩ := step_of_write_bus input
      exact ⟨t, hs, bus.trans (congrArg some answer)⟩

/-! ## The pulse buffers (20_memory.md R80, R81) -/

theorem readWord_take (l : List Word) {m j : Nat} (h : j < m) : readWord (l.take m) j = readWord l j := by
  simp only [readWord, List.getD_eq_getElem?_getD, List.getElem?_take_of_lt h]

theorem rxBatch_of_accepted {s : State} (active : s.session ≠ .idle) (empty : s.mbFull = false) (batch : List Word) :
    rxBatch batch s = acceptBatch batch s :=
  if_neg (by simp [active, empty])

/-- Settles O41: the batch is accepted, and the prefix it writes is its first m words. -/
theorem acceptedBatchFillsTheMailbox : Obligations.AcceptedBatchFillsTheMailbox := by
  rintro s rest batch m input active empty rfl fits
  have accepted : step s = .next (acceptBatch batch (s.beginStep rest)) :=
    (step_of_cons input).trans (congrArg _ (rxBatch_of_accepted (s := s.beginStep rest) active empty batch))
  refine ⟨_, accepted, rfl, writePrefix_length .., fun j => ?_⟩
  have length : (batch.take (min batch.length s.cap.toNat)).length = min batch.length s.cap.toNat :=
    List.length_take_of_le (Nat.min_le_left _ _)
  refine (readWord_writePrefix _ s.rxBuf j (length.le.trans fits)).trans ?_
  rw [length]
  exact ite_congr rfl (readWord_take batch) fun _ => rfl

theorem step_of_nextCommand {s : State} {i : Instr} (legal : s.nextCommand = some i) :
    ∃ rest, step s = exec i (s.commandStart rest) := by
  unfold State.nextCommand at legal
  split at legal
  · next a w rest input =>
    split at legal
    · next cmd =>
      subst cmd
      split at legal
      · next j decoded =>
        cases legal
        exact ⟨rest, stepRunsDecodedCommand s rest w i input decoded⟩
      · cases legal
    · cases legal
  · cases legal

theorem exec_encode_of_busy {s : State} (busy : s.txBusy = true) : exec .encode s = finish s .txBusy :=
  if_pos busy

/-- Settles O21: only ENCODE writes the three, and a busy transmitter refuses it. -/
theorem transmitBufferIsStableWhileBusy : Obligations.TransmitBufferIsStableWhileBusy := by
  intro s t busy notReset hs
  by_cases encodes : s.nextCommand = some .encode
  · obtain ⟨rest, run⟩ := step_of_nextCommand encodes
    rw [run, exec_encode_of_busy (s := s.commandStart rest) busy, finish_eq_next_iff] at hs
    subst hs
    exact ⟨rfl, rfl, rfl⟩
  · obtain ⟨-, -, -, -, -, writer, -⟩ := registersChangeOnlyByTheirWriters s t hs notReset
    obtain ⟨count, buf, trunc⟩ : t.txCount = s.txCount ∧ t.txBuf = s.txBuf ∧ t.txTrunc = s.txTrunc := by
      simpa only [not_or, ne_eq, not_not] using mt writer encodes
    exact ⟨buf, count, trunc⟩

end Sys2Proof.Machine

namespace Sys2Proof

/-! ## The command word (30_encoding.md) -/

/-- Under a match, a field that the mask keeps whole holds what the value has there (R102). -/
theorem field_of_masked {w mask value : Word} (start len : Nat) (hit : w &&& mask = value)
    (kept : mask.extractLsb' start len = BitVec.allOnes len) :
    w.extractLsb' start len = value.extractLsb' start len := by
  rw [← hit, BitVec.extractLsb'_and, kept, BitVec.and_allOnes]

theorem ownRow_matches (i : Instr) : encode i &&& i.row.mask = i.row.value := by
  suffices own : Laws.OwnRowHits.Statement i by
    obtain ⟨-, hits⟩ := own
    exact beq_iff_eq.mp hits
  cases i with
  | nop => exact Laws.OwnRowHits.nop
  | quant d => exact Laws.OwnRowHits.quant d
  | dequant c => exact Laws.OwnRowHits.dequant c
  | pack p t c => exact Laws.OwnRowHits.pack p t c
  | unpack => exact Laws.OwnRowHits.unpack
  | packs d => exact Laws.OwnRowHits.packs d
  | encode => exact Laws.OwnRowHits.encode
  | send => exact Laws.OwnRowHits.send
  | classify => exact Laws.OwnRowHits.classify
  | decode => exact Laws.OwnRowHits.decode
  | arm => exact Laws.OwnRowHits.arm
  | tick => exact Laws.OwnRowHits.tick
  | poll => exact Laws.OwnRowHits.poll
  | cancel => exact Laws.OwnRowHits.cancel
  | teardown => exact Laws.OwnRowHits.teardown
  | clrerr => exact Laws.OwnRowHits.clrerr

/-! ### The operand formats -/

theorem decodeQ_of_reserved (mk : BitVec 8 → Instr) {w : Word} (reserved : w.extractLsb' 16 16 = 0#16) :
    decodeQ mk w = .command (mk (w.extractLsb' 8 8)) :=
  if_pos reserved

theorem decodeC_of_reserved (mk : BitVec 4 → Instr) {w : Word} (reserved : w.extractLsb' 12 20 = 0#20) :
    decodeC mk w = .command (mk (w.extractLsb' 8 4)) :=
  if_pos reserved

theorem decodeP_of_reserved (mk : BitVec 7 → BitVec 2 → BitVec 4 → Instr) {w : Word}
    (high : w.extractLsb' 24 8 = 0#8) (mid : w.extractLsb' 18 2 = 0#2) (low : w.extractLsb' 15 1 = 0#1) :
    decodeP mk w = .command (mk (w.extractLsb' 8 7) (w.extractLsb' 16 2) (w.extractLsb' 20 4)) :=
  if_pos ⟨high, mid, low⟩

theorem decode_of_quant_op {w : Word} (op : w.extractLsb' 0 8 = 0x01#8) : decode w = decodeQ .quant w := by
  rw [decode, op]; rfl

theorem decode_of_dequant_op {w : Word} (op : w.extractLsb' 0 8 = 0x02#8) : decode w = decodeC .dequant w := by
  rw [decode, op]; rfl

theorem decode_of_pack_op {w : Word} (op : w.extractLsb' 0 8 = 0x03#8) : decode w = decodeP .pack w := by
  rw [decode, op]; rfl

theorem decode_of_packs_op {w : Word} (op : w.extractLsb' 0 8 = 0x05#8) : decode w = decodeQ .packs w := by
  rw [decode, op]; rfl

/-- Settles O4. -/
theorem operandsAreTheFieldsOfTheWord : Obligations.OperandsAreTheFieldsOfTheWord := by
  refine fun w => ⟨fun hit => ?quant, fun hit => ?dequant, fun hit => ?pack, fun hit => ?packs⟩ <;>
    have op := field_of_masked 0 8 hit (by decide)
  case quant =>
    exact (decode_of_quant_op op).trans (decodeQ_of_reserved _ (field_of_masked 16 16 hit (by decide)))
  case dequant =>
    exact (decode_of_dequant_op op).trans (decodeC_of_reserved _ (field_of_masked 12 20 hit (by decide)))
  case pack =>
    exact (decode_of_pack_op op).trans (decodeP_of_reserved _ (field_of_masked 24 8 hit (by decide))
      (field_of_masked 18 2 hit (by decide)) (field_of_masked 15 1 hit (by decide)))
  case packs =>
    exact (decode_of_packs_op op).trans (decodeQ_of_reserved _ (field_of_masked 16 16 hit (by decide)))

/-! ### The operands in the word of a command -/

theorem formatQ_operand (d op : BitVec 8) : (0#16 ++ d ++ op).extractLsb' 8 8 = d := by
  rw [BitVec.extractLsb'_append_eq_of_le (by decide)]
  exact BitVec.extractLsb'_append_eq_right

theorem formatC_operand (c : BitVec 4) (op : BitVec 8) : (0#20 ++ c ++ op).extractLsb' 8 4 = c := by
  rw [BitVec.extractLsb'_append_eq_of_le (by decide)]
  exact BitVec.extractLsb'_append_eq_right

theorem formatP_operands (p : BitVec 7) (t : BitVec 2) (c : BitVec 4) (op : BitVec 8) :
    (0#8 ++ c ++ 0#2 ++ t ++ 0#1 ++ p ++ op).extractLsb' 8 7 = p ∧
      (0#8 ++ c ++ 0#2 ++ t ++ 0#1 ++ p ++ op).extractLsb' 16 2 = t ∧
      (0#8 ++ c ++ 0#2 ++ t ++ 0#1 ++ p ++ op).extractLsb' 20 4 = c := by
  refine ⟨?_, ?_, ?_⟩ <;> repeat rw [BitVec.extractLsb'_append_eq_of_le (by decide)]
  all_goals exact BitVec.extractLsb'_append_eq_right

/-- Settles O1: the word of a command is matched by the command's row, so its fields are the operands. -/
theorem commandWordRoundTrip : Obligations.CommandWordRoundTrip := by
  intro i
  have hit := ownRow_matches i
  obtain ⟨quant, dequant, pack, packs⟩ := operandsAreTheFieldsOfTheWord (encode i)
  cases i with
  | quant d => exact (quant hit).trans (congrArg (CommandDecode.command <| .quant ·) (formatQ_operand d _))
  | dequant c => exact (dequant hit).trans (congrArg (CommandDecode.command <| .dequant ·) (formatC_operand c _))
  | pack p t c =>
    obtain ⟨pid, tid, dc⟩ := formatP_operands p t c 0x03#8
    rw [pack hit, encode, pid, tid, dc]
  | packs d => exact (packs hit).trans (congrArg (CommandDecode.command <| .packs ·) (formatQ_operand d _))
  | nop | unpack | encode | send | classify | decode | arm | tick | poll | cancel | teardown | clrerr => rfl

/-! ### What a decode answers -/

theorem formatN_word {w : Word} (reserved : w.extractLsb' 8 24 = 0#24) : 0#24 ++ w.extractLsb' 0 8 = w := by
  rw [← reserved, BitVec.extractLsb'_append_extractLsb'_eq_extractLsb' (by rfl), BitVec.extractLsb'_eq_self]

theorem formatQ_word {w : Word} (reserved : w.extractLsb' 16 16 = 0#16) :
    0#16 ++ w.extractLsb' 8 8 ++ w.extractLsb' 0 8 = w := by
  rw [← reserved]
  repeat rw [BitVec.extractLsb'_append_extractLsb'_eq_extractLsb' (by rfl)]
  exact BitVec.extractLsb'_eq_self

theorem formatC_word {w : Word} (reserved : w.extractLsb' 12 20 = 0#20) :
    0#20 ++ w.extractLsb' 8 4 ++ w.extractLsb' 0 8 = w := by
  rw [← reserved]
  repeat rw [BitVec.extractLsb'_append_extractLsb'_eq_extractLsb' (by rfl)]
  exact BitVec.extractLsb'_eq_self

theorem formatP_word {w : Word} (high : w.extractLsb' 24 8 = 0#8) (mid : w.extractLsb' 18 2 = 0#2)
    (low : w.extractLsb' 15 1 = 0#1) :
    0#8 ++ w.extractLsb' 20 4 ++ 0#2 ++ w.extractLsb' 16 2 ++ 0#1 ++ w.extractLsb' 8 7 ++ w.extractLsb' 0 8 = w := by
  rw [← high, ← mid, ← low]
  repeat rw [BitVec.extractLsb'_append_extractLsb'_eq_extractLsb' (by rfl)]
  exact BitVec.extractLsb'_eq_self

/-- What a word with an opcode of the map decodes to: the command whose word it is, or a reserved bit (R102, R103). -/
def MapAnswer (w : Word) (answer : CommandDecode) : Prop :=
  (∃ i, answer = .command i ∧ encode i = w) ∨ answer = .illegal .reservedBits

section mapAnswer
variable {w : Word} {op : Nat}

theorem decodeN_mapAnswer {i : Instr} (hop : (w.extractLsb' 0 8).toNat = op)
    (word : encode i = 0#24 ++ BitVec.ofNat 8 op) : MapAnswer w (decodeN i w) := by
  subst hop
  unfold decodeN
  split
  · next reserved => exact .inl ⟨i, rfl, by rw [word, BitVec.ofNat_toNat, BitVec.setWidth_eq, formatN_word reserved]⟩
  · exact .inr rfl

theorem decodeQ_mapAnswer {mk : BitVec 8 → Instr} (hop : (w.extractLsb' 0 8).toNat = op)
    (word : ∀ d, encode (mk d) = 0#16 ++ d ++ BitVec.ofNat 8 op) : MapAnswer w (decodeQ mk w) := by
  subst hop
  unfold decodeQ
  split
  · next reserved => exact .inl ⟨_, rfl, by rw [word, BitVec.ofNat_toNat, BitVec.setWidth_eq, formatQ_word reserved]⟩
  · exact .inr rfl

theorem decodeC_mapAnswer {mk : BitVec 4 → Instr} (hop : (w.extractLsb' 0 8).toNat = op)
    (word : ∀ c, encode (mk c) = 0#20 ++ c ++ BitVec.ofNat 8 op) : MapAnswer w (decodeC mk w) := by
  subst hop
  unfold decodeC
  split
  · next reserved => exact .inl ⟨_, rfl, by rw [word, BitVec.ofNat_toNat, BitVec.setWidth_eq, formatC_word reserved]⟩
  · exact .inr rfl

theorem decodeP_mapAnswer {mk : BitVec 7 → BitVec 2 → BitVec 4 → Instr} (hop : (w.extractLsb' 0 8).toNat = op)
    (word : ∀ p t c, encode (mk p t c) = 0#8 ++ c ++ 0#2 ++ t ++ 0#1 ++ p ++ BitVec.ofNat 8 op) :
    MapAnswer w (decodeP mk w) := by
  subst hop
  unfold decodeP
  split
  · next reserved =>
    obtain ⟨high, mid, low⟩ := reserved
    exact .inl ⟨_, rfl, by rw [word, BitVec.ofNat_toNat, BitVec.setWidth_eq, formatP_word high mid low]⟩
  · exact .inr rfl

end mapAnswer

/-- OP alone says whether a row of the map is selected (R102). -/
theorem decode_cases (w : Word) :
    ((w.extractLsb' 0 8).toNat ≤ 0x0F ∧ MapAnswer w (decode w)) ∨
      (0x10 ≤ (w.extractLsb' 0 8).toNat ∧ decode w = .illegal .unknownOpcode) := by
  unfold decode
  split
  case h_2 op => exact .inl ⟨by omega, decodeQ_mapAnswer op fun _ => rfl⟩
  case h_3 op => exact .inl ⟨by omega, decodeC_mapAnswer op fun _ => rfl⟩
  case h_4 op => exact .inl ⟨by omega, decodeP_mapAnswer op fun _ _ _ => rfl⟩
  case h_6 op => exact .inl ⟨by omega, decodeQ_mapAnswer op fun _ => rfl⟩
  case h_17 => exact .inr ⟨by grind, rfl⟩
  all_goals
    next op => exact .inl ⟨by omega, decodeN_mapAnswer op rfl⟩

/-- Settles O2. -/
theorem decodedWordReencodes : Obligations.DecodedWordReencodes := by
  intro w i decoded
  obtain ⟨-, ⟨j, answer, word⟩ | answer⟩ | ⟨-, answer⟩ := decode_cases w
  · obtain rfl : j = i := CommandDecode.command.inj (answer.symm.trans decoded)
    exact word
  · exact nomatch answer.symm.trans decoded
  · exact nomatch answer.symm.trans decoded

/-! ### The opcode map -/

theorem row_mem_opcodeTable (i : Instr) : i.row ∈ opcodeTable := by
  cases i <;> simp [opcodeTable, Instr.row]

theorem exists_row_of_mem {r : OpcodeRow} (mem : r ∈ opcodeTable) : ∃ i : Instr, i.row = r := by
  obtain ⟨i, -, row⟩ := List.mem_map.mp mem
  exact ⟨i, row⟩

/-- A word that a row matches decodes to a command of that row: the fields are its operands, or the row leaves no bit free. -/
theorem decode_of_row_match {w : Word} (i : Instr) (hit : w &&& i.row.mask = i.row.value) :
    ∃ j, decode w = .command j ∧ j.row = i.row := by
  obtain ⟨quant, dequant, pack, packs⟩ := operandsAreTheFieldsOfTheWord w
  cases i with
  | quant => exact ⟨_, quant hit, rfl⟩
  | dequant => exact ⟨_, dequant hit, rfl⟩
  | pack => exact ⟨_, pack hit, rfl⟩
  | packs => exact ⟨_, packs hit, rfl⟩
  | nop | unpack | encode | send | classify | decode | arm | tick | poll | cancel | teardown | clrerr =>
    obtain rfl := BitVec.and_allOnes.symm.trans hit
    exact ⟨_, rfl, rfl⟩

theorem row_match_of_decode {w : Word} {i : Instr} (decoded : decode w = .command i) : w &&& i.row.mask = i.row.value := by
  rw [← decodedWordReencodes w i decoded]
  exact ownRow_matches i

theorem decode_of_table_match {w : Word} {r : OpcodeRow} (mem : r ∈ opcodeTable) (hit : w &&& r.mask = r.value) :
    ∃ i, decode w = .command i ∧ i.row = r := by
  obtain ⟨i, rfl⟩ := exists_row_of_mem mem
  exact decode_of_row_match i hit

/-- Settles O3: at most one row matches, since the word decodes to one command only. -/
theorem decodeFollowsTheOpcodeMap : Obligations.DecodeFollowsTheOpcodeMap := by
  refine ⟨fun w i decoded => ⟨row_mem_opcodeTable i, row_match_of_decode decoded⟩,
    fun w r mem hit => decode_of_table_match mem hit, fun w r₁ r₂ mem₁ mem₂ hit₁ hit₂ => ?_⟩
  obtain ⟨i, decoded₁, rfl⟩ := decode_of_table_match mem₁ hit₁
  obtain ⟨j, decoded₂, rfl⟩ := decode_of_table_match mem₂ hit₂
  exact congrArg Instr.row (CommandDecode.command.inj (decoded₁.symm.trans decoded₂))

theorem no_row_matches_of_illegal {w : Word} {kind : IllegalKind} (illegal : decode w = .illegal kind) :
    ∀ r ∈ opcodeTable, w &&& r.mask ≠ r.value := by
  intro r mem hit
  obtain ⟨i, decoded, -⟩ := decode_of_table_match mem hit
  exact nomatch illegal.symm.trans decoded

/-- Settles O5. -/
theorem illegalWordsAreOfTwoKinds : Obligations.IllegalWordsAreOfTwoKinds := by
  intro w
  obtain ⟨known, ⟨i, answer, -⟩ | answer⟩ | ⟨unknown, answer⟩ := decode_cases w
  · have matched : ¬∀ r ∈ opcodeTable, w &&& r.mask ≠ r.value := fun unmatched =>
      unmatched _ (row_mem_opcodeTable i) (row_match_of_decode answer)
    rw [answer]
    exact ⟨⟨nofun, fun unknown => by omega⟩, ⟨nofun, fun ⟨_, unmatched⟩ => absurd unmatched matched⟩⟩
  · have unmatched := no_row_matches_of_illegal answer
    rw [answer]
    exact ⟨⟨nofun, fun unknown => by omega⟩, ⟨fun _ => ⟨known, unmatched⟩, fun _ => rfl⟩⟩
  · rw [answer]
    exact ⟨⟨fun _ => unknown, fun _ => rfl⟩, ⟨nofun, fun ⟨known, _⟩ => by omega⟩⟩

end Sys2Proof

namespace Sys2Proof.Machine

/-- Settles O30: each field is peeled off the fields below it (R98, R137). -/
theorem decodedFrameLayout : Obligations.DecodedFrameLayout := by
  intro f
  unfold decodedFrame
  refine ⟨BitVec.extractLsb'_append_eq_right, ?_, ?_, ?_, ?_, ?_, ?_, ?valid⟩
  case valid =>
    simp only [BitVec.getLsbD_append]
    rfl
  all_goals
    repeat rw [BitVec.extractLsb'_append_eq_of_le (by decide)]
    exact BitVec.extractLsb'_append_eq_right

end Sys2Proof.Machine

namespace Sys2Proof

/-! ### The words of one command -/

/-- Exactly one word decodes to a command: the command's own (R89, R102). -/
theorem decode_eq_command_iff_word {w : Word} {i : Instr} : decode w = .command i ↔ w = encode i := by
  constructor
  · intro decoded
    exact (decodedWordReencodes w i decoded).symm
  · rintro rfl
    exact commandWordRoundTrip i

/-- Where the row of `i` leaves no choice of the command but `j`, the words of `i` are those that its row matches, and `i` is
`j` (R102). -/
theorem decode_eq_command_iff_row {w : Word} {i j : Instr}
    (fields : w &&& i.row.mask = i.row.value → decode w = .command j) :
    decode w = .command i ↔ w &&& i.row.mask = i.row.value ∧ i = j := by
  constructor
  · intro decoded
    have hit := row_match_of_decode decoded
    exact ⟨hit, CommandDecode.command.inj (decoded.symm.trans (fields hit))⟩
  · rintro ⟨hit, rfl⟩
    exact fields hit

theorem decode_eq_quant_iff (w : Word) (d : BitVec 8) :
    decode w = .command (.quant d) ↔ w &&& 0xFFFF00FF#32 = 0x00000001#32 ∧ d = w.extractLsb' 8 8 := by
  obtain ⟨quant, -, -, -⟩ := operandsAreTheFieldsOfTheWord w
  exact (decode_eq_command_iff_row quant).trans (and_congr_right' (Instr.quant.injEq _ _).to_iff)

theorem decode_eq_dequant_iff (w : Word) (c : BitVec 4) :
    decode w = .command (.dequant c) ↔ w &&& 0xFFFFF0FF#32 = 0x00000002#32 ∧ c = w.extractLsb' 8 4 := by
  obtain ⟨-, dequant, -, -⟩ := operandsAreTheFieldsOfTheWord w
  exact (decode_eq_command_iff_row dequant).trans (and_congr_right' (Instr.dequant.injEq _ _).to_iff)

theorem decode_eq_pack_iff (w : Word) (p : BitVec 7) (t : BitVec 2) (c : BitVec 4) :
    decode w = .command (.pack p t c) ↔ w &&& 0xFF0C80FF#32 = 0x00000003#32 ∧
      p = w.extractLsb' 8 7 ∧ t = w.extractLsb' 16 2 ∧ c = w.extractLsb' 20 4 := by
  obtain ⟨-, -, pack, -⟩ := operandsAreTheFieldsOfTheWord w
  exact (decode_eq_command_iff_row pack).trans (and_congr_right' (Instr.pack.injEq _ _ _ _ _ _).to_iff)

theorem decode_eq_packs_iff (w : Word) (d : BitVec 8) :
    decode w = .command (.packs d) ↔ w &&& 0xFFFF00FF#32 = 0x00000005#32 ∧ d = w.extractLsb' 8 8 := by
  obtain ⟨-, -, -, packs⟩ := operandsAreTheFieldsOfTheWord w
  exact (decode_eq_command_iff_row packs).trans (and_congr_right' (Instr.packs.injEq _ _).to_iff)

/-- Settles O6: a legal word is its command's own word, and an illegal one is told by OP and the rows. -/
theorem specExampleWordsDecode : Obligations.SpecExampleWordsDecode := by
  obtain ⟨-, reserved⟩ := illegalWordsAreOfTwoKinds 0x00000F0C#32
  obtain ⟨unknown, -⟩ := illegalWordsAreOfTwoKinds 0x000000FF#32
  refine ⟨?_, ?_, ?_, ?_, ?_, ?_, reserved.mpr (by decide), unknown.mpr (by decide)⟩
  all_goals exact decode_eq_command_iff_word.mpr (by decide)

end Sys2Proof

namespace Sys2Proof.Machine

/-! ## The quantizer (40_quantizer_packer.md R108 to R110) -/

/-- The number of the first band that reaches `d`, which is the code where there is one (R108). -/
def bandIndex (d : Nat) : Nat := quantizeUppers.findIdx fun upper => decide (d ≤ upper)

theorem quantize_of_le {d : BitVec 8} (inRange : d.toNat ≤ 100) : quantize d = BitVec.ofNat 4 (bandIndex d.toNat) :=
  if_neg (Nat.not_lt.mpr inRange)

theorem quantize_of_gt {d : BitVec 8} (outOfRange : 100 < d.toNat) : quantize d = 0 :=
  if_pos outOfRange

theorem bandIndex_lt {d : Nat} (inRange : d ≤ 100) : bandIndex d < 16 :=
  List.findIdx_lt_length_of_exists ⟨100, by decide, decide_eq_true inRange⟩

/-- A band that reaches the greater damage reaches the lesser one. -/
theorem bandIndex_mono {a b : Nat} (le : a ≤ b) : bandIndex a ≤ bandIndex b :=
  List.findIdx_le_findIdx fun _ _ reaches => decide_eq_true (le.trans (of_decide_eq_true reaches))

theorem bandIndex_of_bounds {d c : Nat} (code : c < quantizeUppers.length) (upper : d ≤ quantizeUppers[c])
    (lower : ∀ (j : Nat) (_ : j < c), quantizeUppers[j] < d) : bandIndex d = c :=
  (List.findIdx_eq code).mpr
    ⟨decide_eq_true upper, fun j below => decide_eq_false (Nat.not_le.mpr (lower j below))⟩

theorem quantize_toNat {d : BitVec 8} (inRange : d.toNat ≤ 100) : (quantize d).toNat = bandIndex d.toNat := by
  rw [quantize_of_le inRange, BitVec.toNat_ofNat]
  exact Nat.mod_eq_of_lt (bandIndex_lt inRange)

theorem quantize_mono {d₁ d₂ : BitVec 8} (le : d₁ ≤ d₂) (inRange : d₂.toNat ≤ 100) : quantize d₁ ≤ quantize d₂ := by
  have le' : d₁.toNat ≤ d₂.toNat := BitVec.le_def.mp le
  rw [BitVec.le_def, quantize_toNat inRange, quantize_toNat (le'.trans inRange)]
  exact bandIndex_mono le'

/-- A band of the table lies above 100, or it reaches from above the upper ends of the lower codes to its own (R108, R109). -/
theorem damageBands_bounds : ∀ band ∈ damageBands,
    (100 < band.1 ∧ band.2.2 = 0) ∨ (band.2.1 ≤ 100 ∧ ∃ code : band.2.2 < quantizeUppers.length,
      band.2.1 ≤ quantizeUppers[band.2.2] ∧ ∀ (j : Nat) (_ : j < band.2.2), quantizeUppers[j] < band.1) := by
  decide

theorem quantize_of_band {band : Nat × Nat × Nat} {d : BitVec 8} (mem : band ∈ damageBands) (low : band.1 ≤ d.toNat)
    (high : d.toNat ≤ band.2.1) : quantize d = BitVec.ofNat 4 band.2.2 := by
  obtain ⟨above, zero⟩ | ⟨inRange, code, upper, lower⟩ := damageBands_bounds band mem
  · rw [quantize_of_gt (above.trans_le low), zero]
    rfl
  · rw [quantize_of_le (high.trans inRange),
      bandIndex_of_bounds code (high.trans upper) fun j below => (lower j below).trans_le low]

/-- The bands are contiguous, from 0 to 255 (R108, R109). -/
theorem exists_band (d : BitVec 8) : ∃ band ∈ damageBands, band.1 ≤ d.toNat ∧ d.toNat ≤ band.2.1 := by
  have top := d.isLt
  simp only [damageBands, List.exists_mem_cons_iff, List.not_mem_nil, false_and, exists_false]
  omega

theorem bandCode_lt : ∀ band ∈ damageBands, band.2.2 < 2 ^ 4 := by decide

/-- The damage of a code lies in the code's own band (R110). -/
theorem dequantize_in_band : ∀ c : BitVec 4, ∃ band ∈ damageBands, BitVec.ofNat 4 band.2.2 = c ∧
    band.1 ≤ (dequantize c).toNat ∧ (dequantize c).toNat ≤ band.2.1 := by
  decide

theorem quantize_dequantize (c : BitVec 4) : quantize ((dequantize c).setWidth 8) = c := by
  obtain ⟨band, mem, code, low, high⟩ := dequantize_in_band c
  have damage : ((dequantize c).setWidth 8).toNat = (dequantize c).toNat := BitVec.toNat_setWidth_of_le (by decide)
  rw [← damage] at low high
  exact (quantize_of_band mem low high).trans code

theorem dequantize_of_row : ∀ row ∈ damageOfCode, (dequantize (BitVec.ofNat 4 row.1)).setWidth 32 = BitVec.ofNat 32 row.2 := by
  decide

theorem exec_quant (d : BitVec 8) (s : State) :
    exec (.quant d) s = .next { s with result := (quantize d).setWidth 32, err := .ok } := rfl

theorem exec_dequant (c : BitVec 4) (s : State) :
    exec (.dequant c) s = .next { s with result := (dequantize c).setWidth 32, err := .ok } := rfl

/-- Settles O13: the bands cover every damage, and the band that holds one gives its code. -/
theorem quantGivesTheBandCode : Obligations.QuantGivesTheBandCode := by
  refine ⟨decode_eq_quant_iff, exists_band, fun band d s mem low high => ?_⟩
  rw [exec_quant, quantize_of_band mem low high,
    BitVec.setWidth_ofNat_of_le_of_lt (by decide) (bandCode_lt band mem)]

/-- Settles O14: the words are those of the row, and the damage is the one of R110. -/
theorem dequantGivesTheTableDamage : Obligations.DequantGivesTheTableDamage := by
  refine ⟨decode_eq_dequant_iff, by decide, fun row s mem => ?_⟩
  rw [exec_dequant, dequantize_of_row row mem]

/-! ## The packer (R113, R114) -/

/-- The fields of a packed frame, written in one row (R97). -/
theorem packFrame_eq_fields (p : BitVec 7) (t : BitVec 2) (c : BitVec 4) :
    packFrame p t c = 0#16 ++ t ++ c ++ 0#2 ++ 0#1 ++ p := by
  simp only [packFrame, BitVec.append_assoc, BitVec.cast_eq]

theorem lowHalf_packFrame (p : BitVec 7) (t : BitVec 2) (c : BitVec 4) :
    lowHalf (packFrame p t c) = t ++ c ++ 0#2 ++ 0#1 ++ p := by
  have halves : packFrame p t c = 0#16 ++ (t ++ c ++ 0#2 ++ 0#1 ++ p) := by
    simp only [packFrame, BitVec.append_assoc, BitVec.cast_eq]
  rw [halves]
  exact BitVec.extractLsb'_append_eq_right

/-- What a packed frame holds at the places of the three fields (R97, R114). -/
theorem packedFrame_fields (p : BitVec 7) (t : BitVec 2) (c : BitVec 4) :
    (t ++ c ++ 0#2 ++ 0#1 ++ p).extractLsb' 0 7 = p ∧ (t ++ c ++ 0#2 ++ 0#1 ++ p).extractLsb' 14 2 = t ∧
      (t ++ c ++ 0#2 ++ 0#1 ++ p).extractLsb' 10 4 = c := by
  refine ⟨BitVec.extractLsb'_append_eq_right, ?team, ?code⟩ <;>
    repeat rw [BitVec.extractLsb'_append_eq_of_le (by decide)]
  case team => exact BitVec.extractLsb'_eq_self
  case code => exact BitVec.extractLsb'_append_eq_right

/-- A field of FRAME lies in its low half (R46). -/
theorem frameWord_field (s : State) (start len : Nat) (inLowHalf : start + len ≤ 16) :
    s.frameWord.extractLsb' start len = s.frame.extractLsb' start len :=
  BitVec.extractLsb'_append_eq_of_add_le inLowHalf

theorem unpackedFields_frameWord (s : State) : unpackedFields s.frameWord =
    0#16 ++ s.frame.extractLsb' 10 4 ++ 0#2 ++ s.frame.extractLsb' 14 2 ++ 0#1 ++ s.frame.extractLsb' 0 7 := by
  rw [unpackedFields, frameCode, frameTeam, framePlayer, frameWord_field s 10 4 (by decide),
    frameWord_field s 14 2 (by decide), frameWord_field s 0 7 (by decide)]

/-- Where UNPACK puts the three fields (R116). -/
theorem unpackedWord_fields (p : BitVec 7) (t : BitVec 2) (c : BitVec 4) :
    (0#16 ++ c ++ 0#2 ++ t ++ 0#1 ++ p).extractLsb' 0 7 = p ∧ (0#16 ++ c ++ 0#2 ++ t ++ 0#1 ++ p).extractLsb' 8 2 = t ∧
      (0#16 ++ c ++ 0#2 ++ t ++ 0#1 ++ p).extractLsb' 12 4 = c := by
  refine ⟨BitVec.extractLsb'_append_eq_right, ?team, ?code⟩ <;>
    repeat rw [BitVec.extractLsb'_append_eq_of_le (by decide)]
  all_goals exact BitVec.extractLsb'_append_eq_right

theorem exec_pack (p : BitVec 7) (t : BitVec 2) (c : BitVec 4) (s : State) :
    exec (.pack p t c) s =
      .next { s with frame := lowHalf (packFrame p t c), result := packFrame p t c, err := .ok } := rfl

theorem exec_packs (d : BitVec 8) (s : State) : exec (.packs d) s =
    .next { s with
      frame := lowHalf (packFrame s.selfPid s.selfTid (quantize d))
      result := packFrame s.selfPid s.selfTid (quantize d)
      err := .ok } := rfl

theorem exec_unpack (s : State) :
    exec .unpack s = .next { s with result := unpackedFields s.frameWord, err := .ok } := rfl

/-- Settles O16: PACKS builds its frame as PACK does. -/
theorem packCommandsBuildTheFrame : Obligations.PackCommandsBuildTheFrame := by
  refine ⟨decode_eq_pack_iff, decode_eq_packs_iff, fun s => ⟨fun p t c => ?pack, fun d => ?packs⟩⟩
  case pack => rw [exec_pack, lowHalf_packFrame, packFrame_eq_fields]
  case packs => rw [exec_packs, lowHalf_packFrame, packFrame_eq_fields]

/-- Settles O17: the command has one word, and the fields it reads lie in FRAME[15:0]. -/
theorem unpackReturnsTheFields : Obligations.UnpackReturnsTheFields := by
  refine ⟨fun w => decode_eq_command_iff_word, fun s => ?_⟩
  rw [exec_unpack, unpackedFields_frameWord]

/-! ## The laws of the family (R118) -/

/-- The frame that PACK leaves is what UNPACK reads back. -/
theorem unpack_after_pack (p : BitVec 7) (t : BitVec 2) (c : BitVec 4) (s : State) :
    ∃ u v, exec (.pack p t c) s = .next u ∧ exec .unpack u = .next v ∧
      v.result.extractLsb' 0 7 = p ∧ v.result.extractLsb' 8 2 = t ∧ v.result.extractLsb' 12 4 = c := by
  obtain ⟨-, -, packing⟩ := packCommandsBuildTheFrame
  obtain ⟨-, unpacking⟩ := unpackReturnsTheFields
  obtain ⟨pack, -⟩ := packing s
  refine ⟨_, _, pack p t c, unpacking _, ?_⟩
  obtain ⟨player, team, code⟩ := packedFrame_fields p t c
  rw [player, team, code]
  exact unpackedWord_fields p t c

/-- Settles O15: the order of the bands, each damage of R110 in its band, the two frame layouts, and two lost damages. -/
theorem quantizerAndPackerLaws : Obligations.QuantizerAndPackerLaws :=
  ⟨fun _ _ lt inRange => quantize_mono (BitVec.le_of_lt lt) inRange, fun d _ => quantize_dequantize (quantize d),
    unpack_after_pack, by decide⟩

end Sys2Proof.Machine

namespace Sys2Proof.Machine

/-! ## The encoding in TX_BUF (41_pulse_encoder.md R120 to R124) -/

/-- FRAME[31:16] reads 0, as every bit beyond FRAME[15:0] does (R46). -/
theorem frameWord_getLsbD (s : State) (i : Nat) : s.frameWord.getLsbD i = s.frame.getLsbD i := by
  rw [State.frameWord, BitVec.getLsbD_append, BitVec.getLsbD_zero, ite_eq_left_iff]
  intro beyond
  exact (BitVec.getLsbD_of_ge s.frame i (not_lt.mp beyond)).symm

@[simp] theorem encodedSymbols_length (t : Timing) (f : Word) (n : Nat) : (encodedSymbols t f n).length = n := by
  simp [encodedSymbols]

theorem readWord_encodedSymbols (t : Timing) (f : Word) {n j : Nat} (h : j < n) :
    readWord (encodedSymbols t f n) j = encodedSymbol t f j := by
  simp [readWord_eq_getElem, encodedSymbols, h]

/-- Symbol j by the registers that hold the timing constants (R52, R53). -/
theorem encodedSymbol_eq_fields (s : State) (j : Nat) : encodedSymbol s.timing s.frameWord j =
    if j = 0 then highHalf s.timStart ++ lowHalf s.timStart
    else if s.frame.getLsbD (wirePosition (j - 1)) then highHalf s.timStart ++ highHalf s.timBits
    else highHalf s.timStart ++ lowHalf s.timBits := by
  cases j with
  | zero => rfl
  | succ k =>
    rw [if_neg k.succ_ne_zero, encodedSymbol, wireBit, frameWord_getLsbD]
    exact apply_ite _ _ _ _

theorem readWord_encodeFrame {s : State} (fits : encodedCount s.cap ≤ s.txBuf.length) (j : Nat) :
    readWord s.encodeFrame.txBuf j =
      if encodedCount s.cap ≤ j then readWord s.txBuf j else encodedSymbol s.timing s.frameWord j := by
  rw [State.encodeFrame, readWord_writePrefix _ _ _ (by rwa [encodedSymbols_length]), encodedSymbols_length]
  split
  · next inside => rw [if_neg (not_le.mpr inside), readWord_encodedSymbols _ _ inside]
  · next beyond => rw [if_pos (not_lt.mp beyond)]

/-! ## ENCODE (R124) -/

theorem encodeFrame_txTrunc (s : State) : s.encodeFrame.txTrunc = decide (encodedCount s.cap < 33) := rfl

theorem exec_encode_of_invalid_timing {s : State} (notBusy : s.txBusy = false) (invalid : s.timingOk = false) :
    exec .encode s = finish s .configurationError := by
  simp [exec, execEncode, notBusy, invalid]

theorem exec_encode_of_ready {s : State} (notBusy : s.txBusy = false) (valid : s.timingOk = true) :
    exec .encode s = finish s.encodeFrame (if encodedCount s.cap < 33 then .encodeTruncation else .ok) := by
  simp [exec, execEncode, notBusy, valid, encodeFrame_txTrunc]

/-- Settles O18: what ENCODE writes at the front of TX_BUF is the first n symbols of the encoding. -/
theorem encodeWritesTheSymbols : Obligations.EncodeWritesTheSymbols := by
  refine ⟨fun w => decode_eq_command_iff_word, fun s n => ⟨exec_encode_of_busy, exec_encode_of_invalid_timing, ?_⟩⟩
  rintro notBusy valid rfl fits
  refine ⟨_, exec_encode_of_ready notBusy valid, rfl, writePrefix_length .., fun j => ?_⟩
  refine (readWord_encodeFrame fits j).trans ?_
  rw [encodedSymbol_eq_fields]
  rfl

/-! ## SEND and the done event (R125, R126) -/

/-- Settles O19: the three refusals in order, then the hand-over. -/
theorem sendStartsTheTransmission : Obligations.SendStartsTheTransmission := by
  refine ⟨fun w => decode_eq_command_iff_word, fun s => ?_⟩
  rw [exec, execSend]
  split_ifs with noSymbols busy truncated <;> rfl

/-- Settles O20. -/
theorem txDoneEndsTheTransmission : Obligations.TxDoneEndsTheTransmission := by
  intro s rest success input
  refine ⟨fun busy => ?_, step_of_stray_done input⟩
  rw [step_of_cons input]
  obtain ⟨notBusy, -⟩ | ⟨-, h⟩ := txDone_cases success (s.beginStep rest)
  · exact absurd (busy.symm.trans notBusy) Bool.false_ne_true.symm
  · exact congrArg Host.Outcome.next h

/-! ## The duration of an encoding (R127) -/

/-- The mark that bit i of a frame asks for: ONE_ON or ZERO_ON (R122). -/
def bitMark (t : Timing) (f : Word) (i : Nat) : Nat := if f.getLsbD i then t.oneOn.toNat else t.zeroOn.toNat

theorem symbolDuration_symbolWord (off on : Duration) : symbolDuration (symbolWord off on) = on.toNat + off.toNat := by
  have low : lowHalf (symbolWord off on) = on := BitVec.extractLsb'_append_eq_right
  have high : highHalf (symbolWord off on) = off := BitVec.extractLsb'_append_eq_left
  rw [symbolDuration, low, high]

theorem symbolDuration_dataSymbol (t : Timing) (f : Word) (j : Nat) :
    symbolDuration (encodedSymbol t f (j + 1)) = bitMark t f (wirePosition j) + t.off.toNat := by
  rw [encodedSymbol, symbolDuration_symbolWord, apply_ite BitVec.toNat]
  rfl

/-- The wire carries each bit of the frame once (R99). -/
theorem wirePosition_perm : ((List.range 32).map wirePosition).Perm (List.range 32) := by
  decide

theorem sum_bitMark_wire (t : Timing) (f : Word) :
    ((List.range 32).map fun j => bitMark t f (wirePosition j)).sum = ((List.range 32).map (bitMark t f)).sum := by
  rw [← (wirePosition_perm.map (bitMark t f)).sum_eq, List.map_map]
  rfl

/-- The marks add up by the number of 1 bits. -/
theorem sum_bitMark (t : Timing) (f : Word) (l : List Nat) : (l.map (bitMark t f)).sum =
    (l.filter fun i => f.getLsbD i).length * t.oneOn.toNat +
      (l.length - (l.filter fun i => f.getLsbD i).length) * t.zeroOn.toNat := by
  have zeros : l.length - (l.filter fun i => f.getLsbD i).length = (l.filter fun i => !f.getLsbD i).length := by
    rw [List.length_eq_length_filter_add (l := l) fun i => f.getLsbD i, Nat.add_sub_cancel_left]
  rw [zeros]
  exact (List.sum_map_ite (fun i => f.getLsbD i = true) (fun _ => t.oneOn.toNat) (fun _ => t.zeroOn.toNat) l).trans
    (by simp)

/-- The start symbol, then the marks and the spaces of n data symbols. -/
theorem sum_encodedSymbol_durations (t : Timing) (f : Word) (n : Nat) :
    ((List.range (n + 1)).map fun j => symbolDuration (encodedSymbol t f j)).sum =
      t.startOn.toNat + (n + 1) * t.off.toNat + ((List.range n).map fun j => bitMark t f (wirePosition j)).sum := by
  have start : symbolDuration (encodedSymbol t f 0) = t.startOn.toNat + t.off.toNat := symbolDuration_symbolWord ..
  have data : ((List.range n).map fun j => symbolDuration (encodedSymbol t f (j + 1))).sum =
      ((List.range n).map fun j => bitMark t f (wirePosition j)).sum + n * t.off.toNat := by
    simp [symbolDuration_dataSymbol, List.sum_map_add]
  rw [List.range_succ_eq_map, List.map_cons, List.sum_cons, List.map_map, start]
  refine (congrArg _ data).trans ?_
  ring

/-- ENCODE reports no error only where it wrote the whole encoding. -/
theorem whole_of_encode_ok {s t : State} (run : exec .encode s = .next t) (ok : t.err = .ok) :
    encodedCount s.cap = 33 ∧ t = s.encodeFrame.setErr .ok := by
  obtain rfl | ⟨notBusy, rest⟩ := refused_or_passed run
  · cases ok
  obtain rfl | ⟨valid, -⟩ := refused_or_passed rest
  · cases ok
  rw [exec_encode_of_ready (by simpa using notBusy) (by simpa using valid), finish_eq_next_iff] at run
  subst run
  have atMost : encodedCount s.cap ≤ 33 := Nat.min_le_right _ _
  split at ok
  · cases ok
  · next whole => exact ⟨by omega, by rw [if_neg whole]⟩

/-- Settles O22: TX_BUF holds the whole encoding, and the order of the bits on the wire does not change the sum. -/
theorem waveformDuration : Obligations.WaveformDuration := by
  rintro s t k rfl fits run ok
  obtain ⟨whole, rfl⟩ := whole_of_encode_ok run ok
  have written : ∀ j ∈ List.range 33, symbolDuration (readWord (s.encodeFrame.setErr .ok).txBuf j) =
      symbolDuration (encodedSymbol s.timing s.frameWord j) := by
    intro j mem
    have inside : ¬33 ≤ j := by simpa using mem
    rw [State.setErr_txBuf, readWord_encodeFrame (by rwa [whole]), whole, if_neg inside]
  rw [List.map_congr_left written, sum_encodedSymbol_durations, sum_bitMark_wire, sum_bitMark, List.length_range,
    ← Nat.add_assoc]

end Sys2Proof.Machine

namespace Sys2Proof.Machine

/-! ## Bands and classes (42_classifier_decoder.md R128 to R130) -/

/-- With WM_OK = 1 each band lies above all that come after it in the order of R128. -/
theorem bands_descend {s : State} (valid : s.wmOk = true) :
    [s.wmStart, s.wmOne, s.wmZero, s.wmGap].Pairwise fun upper lower => highHalf lower < lowHalf upper := by
  obtain ⟨-, one, zero, -, aboveOne, aboveZero, aboveGap⟩ := (wmOk_iff s).mp valid
  have startAboveZero : highHalf s.wmZero < lowHalf s.wmStart := by bv_omega
  have oneAboveGap : highHalf s.wmGap < lowHalf s.wmOne := by bv_omega
  have startAboveGap : highHalf s.wmGap < lowHalf s.wmStart := by bv_omega
  simp [aboveOne, aboveZero, aboveGap, startAboveZero, oneAboveGap, startAboveGap]

theorem not_inBand_of_above {upper lower : Word} {d : Duration} (above : highHalf lower < lowHalf upper)
    (inside : inBand lower d = true) : inBand upper d = false := by
  obtain ⟨-, high⟩ := (inBand_iff lower d).mp inside
  rw [Bool.eq_false_iff, ne_eq, inBand_iff]
  rintro ⟨low, -⟩
  exact BitVec.not_le.mpr above (BitVec.le_trans low high)

/-- Of bands that lie one above the other at most one holds a duration. -/
theorem filter_inBand_length_le_one {l : List Word} (d : Duration)
    (descending : l.Pairwise fun upper lower => highHalf lower < lowHalf upper) :
    (l.filter fun band => inBand band d).length ≤ 1 := by
  have above := descending.filter fun band => inBand band d
  have inside : ∀ band ∈ l.filter (fun band => inBand band d), inBand band d = true :=
    fun _ mem => (List.mem_filter.mp mem).2
  match h : l.filter fun band => inBand band d with
  | [] => exact Nat.zero_le 1
  | [_] => exact Nat.le_refl 1
  | upper :: lower :: _ =>
    rw [h] at above inside
    have outside : inBand upper d = false :=
      not_inBand_of_above (List.rel_of_pairwise_cons above List.mem_cons_self) (inside lower (by simp))
    exact absurd (inside upper (by simp)) (by simp [outside])

/-- Settles O25: valid bands lie one above the other. -/
theorem validBandsAreDisjoint : Obligations.ValidBandsAreDisjoint :=
  fun _ d valid => filter_inBand_length_le_one d (bands_descend valid)

section classify

variable {s : State} {w : Word}

theorem classifySymbol_of_start (h : inBand s.wmStart (lowHalf w) = true) : classifySymbol s.bands w = .start :=
  if_pos h

theorem classifySymbol_of_one (valid : s.wmOk = true) (h : inBand s.wmOne (lowHalf w) = true) :
    classifySymbol s.bands w = .one := by
  obtain ⟨-, -, -, -, aboveOne, -⟩ := (wmOk_iff s).mp valid
  simp [classifySymbol, State.bands, h, not_inBand_of_above aboveOne h]

theorem classifySymbol_of_zero (valid : s.wmOk = true) (h : inBand s.wmZero (lowHalf w) = true) :
    classifySymbol s.bands w = .zero := by
  have descending := bands_descend valid
  simp only [List.pairwise_cons, List.mem_cons] at descending
  obtain ⟨belowStart, belowOne, -⟩ := descending
  have notStart := not_inBand_of_above (belowStart s.wmZero (by simp)) h
  have notOne := not_inBand_of_above (belowOne s.wmZero (by simp)) h
  simp [classifySymbol, State.bands, h, notStart, notOne]

/-- The OFF field of a symbol does not matter (R129). -/
theorem classifySymbol_congr (b : Bands) {v w : Word} (on : lowHalf v = lowHalf w) :
    classifySymbol b v = classifySymbol b w := by
  rw [classifySymbol, classifySymbol, on]

/-- The code of a class by the ends of the bands (R96, R128). -/
theorem classifySymbol_code (s : State) (w : Word) : (classifySymbol s.bands w).code =
    if lowHalf s.wmStart ≤ lowHalf w ∧ lowHalf w ≤ highHalf s.wmStart then 4
    else if lowHalf s.wmOne ≤ lowHalf w ∧ lowHalf w ≤ highHalf s.wmOne then 3
    else if lowHalf s.wmZero ≤ lowHalf w ∧ lowHalf w ≤ highHalf s.wmZero then 2
    else if lowHalf s.wmGap ≤ lowHalf w ∧ lowHalf w ≤ highHalf s.wmGap then 1
    else 0 := by
  simp only [classifySymbol, State.bands, inBand_iff, apply_ite SymbolClass.code]
  rfl

end classify

/-! ## CLASSIFY and DECODE (R138, R139) -/

section decoder

variable {s : State}

theorem exec_classify_of_invalid (invalid : s.wmOk = false) : exec .classify s = finish s .configurationError := by
  simp [exec, execClassify, invalid]

theorem exec_classify_of_valid (valid : s.wmOk = true) :
    exec .classify s = .next { s with result := (classifySymbol s.bands s.sym).code, err := .ok } := by
  simp [exec, execClassify, valid, finish, State.setErr]

theorem exec_decode_of_invalid (invalid : s.wmOk = false) : exec .decode s = finish s .configurationError := by
  simp [exec, execDecode, invalid]

theorem exec_decode_of_frame {f : Word} (valid : s.wmOk = true) (decoded : s.decodeReceived = .frame f) :
    exec .decode s = .next { s with rxFrame := f, result := decodedFrame f, err := .ok } := by
  simp [exec, execDecode, valid, decoded, finish, State.setErr]

theorem exec_decode_of_error {e : ErrCode} (valid : s.wmOk = true) (failed : s.decodeReceived = .error e) :
    exec .decode s = .next { s with rxFrame := 0, result := 0, err := e } := by
  simp [exec, execDecode, valid, failed, finish, State.setErr]

end decoder

/-- Settles O12: each of the three refuses at its head. -/
theorem refusedCommandsOnlyReportTheError : Obligations.RefusedCommandsOnlyReportTheError :=
  fun _ => ⟨exec_decode_of_invalid, fun idle => ⟨if_pos idle, if_pos idle⟩⟩

/-- Settles O26. -/
theorem classifyReportsTheFirstBand : Obligations.ClassifyReportsTheFirstBand := by
  refine ⟨fun w => decode_eq_command_iff_word, ?_⟩
  rintro s _ rfl
  refine ⟨exec_classify_of_invalid, fun valid => ?_⟩
  rw [exec_classify_of_valid valid, classifySymbol_code]
  rfl

/-! ## The data symbols of a batch (R132 to R136) -/

/-- The symbols at indices 1 to min(RX_COUNT - 1, 32) of RX_BUF, which carry the data bits (R134). -/
def State.dataSymbols (s : State) : List Word :=
  (List.range (min (s.rxCount.toNat - 1) 32)).map fun k => readWord s.rxBuf (k + 1)

theorem dataSymbols_length (s : State) : s.dataSymbols.length = min (s.rxCount.toNat - 1) 32 := by
  simp [State.dataSymbols]

theorem dataSymbols_getElem (s : State) (k : Nat) (h : k < s.dataSymbols.length) :
    s.dataSymbols[k] = readWord s.rxBuf (k + 1) := by
  simp [State.dataSymbols]

theorem mem_dataSymbols_iff {s : State} {w : Word} :
    w ∈ s.dataSymbols ↔ ∃ k < min (s.rxCount.toNat - 1) 32, readWord s.rxBuf (k + 1) = w := by
  simp [State.dataSymbols]

/-- A batch that is not empty is its first symbol and what follows it. -/
theorem receivedSymbols_of_nonempty {s : State} (nonempty : s.rxCount ≠ 0) :
    ∃ rest, s.receivedSymbols = readWord s.rxBuf 0 :: rest ∧ rest.take 32 = s.dataSymbols := by
  obtain ⟨m, hm⟩ : ∃ m, s.rxCount.toNat = m + 1 :=
    Nat.exists_eq_succ_of_ne_zero fun h => nonempty (BitVec.eq_of_toNat_eq h)
  refine ⟨(List.range m).map fun k => readWord s.rxBuf (k + 1), ?_, ?_⟩
  · simp [State.receivedSymbols, hm, List.range_succ_eq_map]
  · simp [State.dataSymbols, hm, ← List.map_take, List.take_range, Nat.min_comm]

theorem decodeReceived_of_noStart {s : State}
    (h : s.rxCount = 0 ∨ classifySymbol s.bands (readWord s.rxBuf 0) ≠ .start) : s.decodeReceived = .error .noStart := by
  by_cases empty : s.rxCount = 0
  · simp [State.decodeReceived, State.receivedSymbols, empty, decodeBatch]
  · obtain ⟨rest, symbols, -⟩ := receivedSymbols_of_nonempty empty
    rw [State.decodeReceived, symbols]
    exact if_neg (h.resolve_left empty)

theorem decodeReceived_of_start {s : State} (nonempty : s.rxCount ≠ 0)
    (start : classifySymbol s.bands (readWord s.rxBuf 0) = .start) :
    s.decodeReceived = collectBits s.bands s.dataSymbols 0 0 := by
  obtain ⟨rest, symbols, data⟩ := receivedSymbols_of_nonempty nonempty
  rw [State.decodeReceived, symbols, ← data]
  exact if_pos start

/-! ### Collecting the data bits -/

section collect

variable {b : Bands} {w : Word} {rest l : List Word} {k : Nat} {f : Word}

theorem collectBits_cons_one (h : classifySymbol b w = .one) :
    collectBits b (w :: rest) k f = collectBits b rest (k + 1) (f ||| 1#32 <<< wirePosition k) := by
  rw [collectBits, h]

theorem collectBits_cons_zero (h : classifySymbol b w = .zero) :
    collectBits b (w :: rest) k f = collectBits b rest (k + 1) f := by
  rw [collectBits, h]

theorem collectBits_cons_other (notOne : classifySymbol b w ≠ .one) (notZero : classifySymbol b w ≠ .zero) :
    collectBits b (w :: rest) k f = .error .malformedSymbol := by
  rw [collectBits]
  cases h : classifySymbol b w with
  | one => exact absurd h notOne
  | zero => exact absurd h notZero
  | invalid | gap | start => rfl

/-- A symbol that carries no bit makes the batch malformed, wherever it stands (R132). -/
theorem collectBits_malformed (mem : w ∈ l) (notOne : classifySymbol b w ≠ .one) (notZero : classifySymbol b w ≠ .zero) :
    collectBits b l k f = .error .malformedSymbol := by
  induction l generalizing k f with
  | nil => cases mem
  | cons v rest ih =>
    by_cases one : classifySymbol b v = .one
    · obtain rfl | mem := List.mem_cons.mp mem
      · exact absurd one notOne
      · exact (collectBits_cons_one one).trans (ih mem)
    by_cases zero : classifySymbol b v = .zero
    · obtain rfl | mem := List.mem_cons.mp mem
      · exact absurd zero notZero
      · exact (collectBits_cons_zero zero).trans (ih mem)
    exact collectBits_cons_other one zero

/-- Data symbols that give fewer than 16 bits make a short frame (R135). -/
theorem collectBits_short (data : ∀ v ∈ l, classifySymbol b v = .one ∨ classifySymbol b v = .zero)
    (short : k + l.length < 16) : collectBits b l k f = .error .shortFrame := by
  induction l generalizing k f with
  | nil => exact if_pos short
  | cons v rest ih =>
    have dataRest : ∀ u ∈ rest, classifySymbol b u = .one ∨ classifySymbol b u = .zero :=
      fun u mem => data u (List.mem_cons_of_mem v mem)
    have shortRest : k + 1 + rest.length < 16 := by simpa [Nat.add_right_comm, ← Nat.add_assoc] using short
    obtain one | zero := data v List.mem_cons_self
    · exact (collectBits_cons_one one).trans (ih dataRest shortRest)
    · exact (collectBits_cons_zero zero).trans (ih dataRest shortRest)

end collect

/-- Settles O28: the first symbol decides NoStart, and the data symbols the other two errors. -/
theorem decodeReportsTheFirstFailure : Obligations.DecodeReportsTheFirstFailure := by
  intro s valid
  refine ⟨fun h => exec_decode_of_error valid (decodeReceived_of_noStart h), fun nonempty start => ⟨?malformed, ?short⟩⟩
  case malformed =>
    intro k low high notOne notZero
    obtain ⟨j, rfl⟩ := Nat.exists_eq_add_of_le' low
    have mem : readWord s.rxBuf (j + 1) ∈ s.dataSymbols := mem_dataSymbols_iff.mpr ⟨j, high, rfl⟩
    exact exec_decode_of_error valid
      ((decodeReceived_of_start nonempty start).trans (collectBits_malformed mem notOne notZero))
  case short =>
    intro count data
    have classes : ∀ w ∈ s.dataSymbols, classifySymbol s.bands w = .one ∨ classifySymbol s.bands w = .zero := by
      intro w mem
      obtain ⟨k, inside, rfl⟩ := mem_dataSymbols_iff.mp mem
      exact data (k + 1) (by omega) (by omega)
    have length : 0 + s.dataSymbols.length < 16 := by
      rw [dataSymbols_length]
      omega
    exact exec_decode_of_error valid ((decodeReceived_of_start nonempty start).trans (collectBits_short classes length))

/-! ### The frame that the data bits make -/

/-- The wire order reverses the bits of each byte, so it is its own inverse (R99). -/
theorem wirePosition_involutive : Function.Involutive wirePosition := by
  intro k
  simp only [wirePosition]
  omega

/-- What a decode has assembled from the first n wire bits of f (R132, R136). -/
def assembled (f : Word) : Nat → Word
  | 0 => 0
  | k + 1 => if wireBit f k then assembled f k ||| 1#32 <<< wirePosition k else assembled f k

theorem collectBits_assembled {b : Bands} {f : Word} {l : List Word} {k : Nat} (enough : 16 ≤ k + l.length)
    (bits : ∀ (i : Nat) (h : i < l.length), classifySymbol b l[i] = if wireBit f (k + i) then .one else .zero) :
    collectBits b l k (assembled f k) = .frame (assembled f (k + l.length)) := by
  induction l generalizing k with
  | nil => exact if_neg (not_lt.mpr enough)
  | cons w rest ih =>
    have count : k + (w :: rest).length = k + 1 + rest.length := by rw [List.length_cons]; omega
    have first := bits 0 (Nat.zero_lt_succ _)
    have tail := ih (k := k + 1) (count ▸ enough) fun i h => by
      simpa [Nat.add_right_comm, ← Nat.add_assoc] using bits (i + 1) (Nat.succ_lt_succ h)
    rw [count, ← tail, assembled]
    cases bit : wireBit f k with
    | true => exact collectBits_cons_one (by simpa [bit] using first)
    | false => exact collectBits_cons_zero (by simpa [bit] using first)

theorem assembled_succ_getLsbD (f : Word) (k : Nat) {i : Nat} (h : i < 32) : (assembled f (k + 1)).getLsbD i =
    ((assembled f k).getLsbD i || (decide (wirePosition i = k) && f.getLsbD i)) := by
  have place : (1#32 <<< wirePosition k).getLsbD i = decide (wirePosition i = k) := by
    rw [← BitVec.twoPow_eq, BitVec.getLsbD_twoPow]
    have same : wirePosition k = i ↔ wirePosition i = k := by rw [wirePosition_involutive.eq_iff, eq_comm]
    by_cases here : wirePosition k = i
    · simp [same.mp here, here, h]
    · simp [here, ← same]
  rw [assembled, apply_ite (BitVec.getLsbD · i), BitVec.getLsbD_or, place]
  by_cases here : wirePosition i = k
  · have back : wirePosition k = i := here ▸ wirePosition_involutive i
    cases bit : f.getLsbD i <;> simp only [wireBit, back, bit, here] <;> simp
  · simp [here]

/-- The bits at the first n wire places are those of f, and the others 0 (R136). -/
theorem assembled_getLsbD (f : Word) (n : Nat) {i : Nat} (h : i < 32) :
    (assembled f n).getLsbD i = (decide (wirePosition i < n) && f.getLsbD i) := by
  induction n with
  | zero => simp [assembled]
  | succ k ih =>
    rw [assembled_succ_getLsbD f k h, ih, ← Bool.and_or_distrib_right, ← Bool.decide_or]
    simp only [Nat.lt_succ_iff_lt_or_eq]

theorem assembled_eq {f : Word} {n : Nat} (rest : ∀ k < 32, n ≤ k → wireBit f k = false) : assembled f n = f := by
  apply BitVec.eq_of_getLsbD_eq
  intro i h
  rw [assembled_getLsbD f n h]
  by_cases inside : wirePosition i < n
  · simp [inside]
  · have place : wirePosition i < 32 := by simp only [wirePosition]; omega
    have bit := rest (wirePosition i) place (not_lt.mp inside)
    rw [wireBit, wirePosition_involutive] at bit
    simp [bit]

/-- Settles O27: with valid bands each data symbol is of the one class its duration lies in. -/
theorem decodeAssemblesTheFrame : Obligations.DecodeAssemblesTheFrame := by
  rintro s f n valid count rfl start data rest
  have nonempty : s.rxCount ≠ 0 := by
    intro h
    simp [h] at count
  have bits : ∀ (i : Nat) (h : i < s.dataSymbols.length),
      classifySymbol s.bands s.dataSymbols[i] = if wireBit f (0 + i) then .one else .zero := by
    intro i h
    have inside := data i (by rwa [dataSymbols_length] at h)
    rw [dataSymbols_getElem, Nat.zero_add, wireBit, wirePosition]
    split at inside
    · next bit => rw [if_pos bit, classifySymbol_of_one valid inside]
    · next bit => rw [if_neg bit, classifySymbol_of_zero valid inside]
  have enough : 16 ≤ 0 + s.dataSymbols.length := by
    rw [dataSymbols_length]
    omega
  refine exec_decode_of_frame valid ((decodeReceived_of_start nonempty (classifySymbol_of_start start)).trans ?_)
  refine (collectBits_assembled enough bits).trans ?_
  rw [Nat.zero_add, dataSymbols_length, assembled_eq rest]

/-! ## The round trip (R140) -/

/-- In a non-degenerate configuration every symbol that ENCODE writes lies in the band it is meant for (R131). -/
theorem encodedSymbol_inBand {s : State} (nonDegenerate : s.NonDegenerate) (f : Word) :
    inBand s.wmStart (lowHalf (encodedSymbol s.timing f 0)) = true ∧
      ∀ k, inBand (if wireBit f k then s.wmOne else s.wmZero) (lowHalf (encodedSymbol s.timing f (k + 1))) = true := by
  obtain ⟨-, -, start, one, zero⟩ := nonDegenerate
  have on (off d : Duration) : lowHalf (symbolWord off d) = d := BitVec.extractLsb'_append_eq_right
  refine ⟨by rwa [encodedSymbol, on], fun k => ?_⟩
  rw [encodedSymbol, on]
  cases wireBit f k with
  | true => exact one
  | false => exact zero

/-- With CAP at least 33, ENCODE writes the whole encoding of FRAME (R123, R124). -/
theorem readWord_after_encode {s t : State} (notBusy : s.txBusy = false) (timing : s.timingOk = true)
    (cap : 33 ≤ s.cap.toNat) (fits : 33 ≤ s.txBuf.length) (run : exec .encode s = .next t) {j : Nat} (h : j < 33) :
    readWord t.txBuf j = encodedSymbol s.timing s.frameWord j := by
  have whole : encodedCount s.cap = 33 := Nat.min_eq_right cap
  rw [exec_encode_of_ready notBusy timing, finish_eq_next_iff] at run
  rw [run, State.setErr_txBuf, readWord_encodeFrame (whole ▸ fits), whole, if_neg (not_le.mpr h)]

/-- DECODE of the encoding of a frame gives the frame, for every frame (R140). -/
theorem exec_decode_of_encoding {s rcv : State} {f : Word} (nonDegenerate : s.NonDegenerate)
    (bands : rcv.bands = s.bands) (count : rcv.rxCount = 33)
    (words : ∀ j < 33, readWord rcv.rxBuf j = encodedSymbol s.timing f j) :
    exec .decode rcv = .next { rcv with rxFrame := f, result := decodedFrame f, err := .ok } := by
  obtain ⟨start, data⟩ := encodedSymbol_inBand nonDegenerate f
  obtain ⟨-, valid, -⟩ := nonDegenerate
  obtain ⟨wmStart, wmOne, wmZero, -⟩ := Bands.mk.inj bands
  have validRcv : rcv.wmOk = true := (congrArg Bands.ok bands).trans valid
  refine decodeAssemblesTheFrame rcv f 32 validRcv (by simp [count]) (by simp [count]) ?first (fun k h => ?bit)
    (fun k h beyond => absurd h (not_lt.mpr beyond))
  case first => rwa [wmStart, words 0 (by decide)]
  case bit =>
    rw [wmOne, wmZero, words (k + 1) (by omega)]
    exact data k

/-- The fields of a decode of FRAME (R98, R137). -/
theorem decodedFrame_frameWord (s : State) : decodedFrame s.frameWord =
    1#1 ++ 0#8 ++ dequantize (s.frame.extractLsb' 10 4) ++ s.frame.extractLsb' 10 4 ++ 0#2 ++ s.frame.extractLsb' 14 2 ++
      0#1 ++ s.frame.extractLsb' 0 7 := by
  rw [decodedFrame, frameCode, frameTeam, framePlayer, frameWord_field s 10 4 (by decide),
    frameWord_field s 14 2 (by decide), frameWord_field s 0 7 (by decide)]

theorem frameWord_of_packed {s : State} {p : BitVec 7} {t : BitVec 2} {c : BitVec 4}
    (packed : s.frame = t ++ c ++ 0#2 ++ 0#1 ++ p) : s.frameWord = 0#16 ++ t ++ c ++ 0#2 ++ 0#1 ++ p := by
  rw [State.frameWord, packed]
  simp only [BitVec.append_assoc, BitVec.cast_eq]

theorem decodedFrame_of_packed {s : State} {p : BitVec 7} {t : BitVec 2} {c : BitVec 4}
    (packed : s.frame = t ++ c ++ 0#2 ++ 0#1 ++ p) :
    decodedFrame s.frameWord = 1#1 ++ 0#8 ++ dequantize c ++ c ++ 0#2 ++ t ++ 0#1 ++ p := by
  obtain ⟨player, team, code⟩ := packedFrame_fields p t c
  rw [decodedFrame_frameWord, packed, player, team, code]

/-- The round trip from a state whose FRAME is packed (R140). -/
theorem exec_decode_after_encode {u sent rcv : State} {p : BitVec 7} {t : BitVec 2} {c : BitVec 4}
    (encode : exec .encode u = .next sent) (packed : u.frame = t ++ c ++ 0#2 ++ 0#1 ++ p)
    (nonDegenerate : u.NonDegenerate) (notBusy : u.txBusy = false) (cap : 33 ≤ u.cap.toNat) (fits : 33 ≤ u.txBuf.length)
    (bands : rcv.bands = u.bands) (count : rcv.rxCount = 33)
    (words : ∀ j < 33, readWord rcv.rxBuf j = readWord sent.txBuf j) :
    exec .decode rcv = .next
      { rcv with
        rxFrame := 0#16 ++ t ++ c ++ 0#2 ++ 0#1 ++ p
        result := 1#1 ++ 0#8 ++ dequantize c ++ c ++ 0#2 ++ t ++ 0#1 ++ p
        err := .ok } := by
  have ⟨timing, _⟩ := nonDegenerate
  have written : ∀ j < 33, readWord rcv.rxBuf j = encodedSymbol u.timing u.frameWord j := fun j h =>
    (words j h).trans (readWord_after_encode notBusy timing cap fits encode h)
  rw [exec_decode_of_encoding nonDegenerate bands count written, decodedFrame_of_packed packed, frameWord_of_packed packed]

/-- Settles O31: PACK changes FRAME, and keeps the configuration and the transmitter as it found them. -/
theorem encodeDecodeRoundTrip : Obligations.EncodeDecodeRoundTrip := by
  intro p t c s packed sent rcv nonDegenerate notBusy cap fits pack encode bands count words
  obtain rfl := Host.Outcome.next.inj ((exec_pack p t c s).symm.trans pack)
  exact exec_decode_after_encode encode (lowHalf_packFrame p t c) nonDegenerate notBusy cap fits bands count words

/-! ## What a decode reads (R141) -/

/-- Settles O29: where the bands are valid the commands write what the decode and the class give, and elsewhere they refuse. -/
theorem decodingReadsOnlyItsOperands : Obligations.DecodingReadsOnlyItsOperands := by
  intro s t s' t' bands
  have sameValidity : s.wmOk = t.wmOk := congrArg Bands.ok bands
  refine ⟨fun count words => ?decode, fun on => ?classify⟩
  case decode =>
    have same := decodeReceived_congr s t bands count words
    refine ⟨same, fun runS runT => ?_⟩
    cases valid : s.wmOk with
    | false =>
      rw [exec_decode_of_invalid valid, finish_eq_next_iff] at runS
      rw [exec_decode_of_invalid (sameValidity ▸ valid), finish_eq_next_iff] at runT
      subst runS runT
      simp
    | true =>
      have validT := sameValidity ▸ valid
      cases decoded : s.decodeReceived with
      | frame f =>
        cases (exec_decode_of_frame valid decoded).symm.trans runS
        cases (exec_decode_of_frame validT (same ▸ decoded)).symm.trans runT
        simp
      | error e =>
        cases (exec_decode_of_error valid decoded).symm.trans runS
        cases (exec_decode_of_error validT (same ▸ decoded)).symm.trans runT
        simp
  case classify =>
    have same : classifySymbol s.bands s.sym = classifySymbol t.bands t.sym :=
      bands ▸ classifySymbol_congr s.bands on
    refine ⟨same, fun runS runT => ?_⟩
    cases valid : s.wmOk with
    | false =>
      rw [exec_classify_of_invalid valid, finish_eq_next_iff] at runS
      rw [exec_classify_of_invalid (sameValidity ▸ valid), finish_eq_next_iff] at runT
      subst runS runT
      simp
    | true =>
      cases (exec_classify_of_valid valid).symm.trans runS
      cases (exec_classify_of_valid (sameValidity ▸ valid)).symm.trans runT
      simp [same]

end Sys2Proof.Machine

namespace Sys2Proof.Machine

/-! ## The session commands (43_reception_session.md) -/

/-- Settles O32: the refusals in their order, then the start. -/
theorem armStartsListening : Obligations.ArmStartsListening := by
  refine ⟨fun w => decode_eq_command_iff_word, fun s => ?_⟩
  rw [exec, execArm]
  simp only [Bool.or_eq_true, Bool.not_eq_true']
  split_ifs with active invalid <;> rfl

/-- Settles O39. -/
theorem cancelLeavesTheCooldown : Obligations.CancelLeavesTheCooldown := by
  refine ⟨fun w => decode_eq_command_iff_word, fun s => ?_⟩
  rw [exec, execCancel]
  exact (apply_ite Host.Outcome.next _ _ _).symm

/-- Settles O40. -/
theorem teardownDestroysTheSession : Obligations.TeardownDestroysTheSession :=
  ⟨fun _ => decode_eq_command_iff_word, fun _ => rfl⟩

/-- Settles O42. -/
theorem unacceptedBatchIsDropped : Obligations.UnacceptedBatchIsDropped := by
  intro s rest batch input refused
  rw [step_of_cons input]
  obtain ⟨-, dropped⟩ | ⟨active, empty, -⟩ := rxBatch_cases batch (s.beginStep rest)
  · exact congrArg Host.Outcome.next dropped
  · obtain idle | full := refused
    · exact absurd idle active
    · exact absurd (full.symm.trans empty) Bool.false_ne_true.symm

/-! ### What expire and drain make of each kind of batch (R146 to R148) -/

section drain

variable {s : State} {f : Word} {e : Option ErrCode}

theorem drain_of_empty (empty : s.mbFull = false) : drain s = (s, none) := by
  simp [drain, empty]

/-- The batch in the mailbox gives no new hit: it does not decode, or a hit is cached already (R148). RX_FRAME will be `f`, and
the decode error, if there is one, is `e` (R147). -/
inductive State.BatchWithoutHit (s : State) : Word → Option ErrCode → Prop where
  | failed (code : ErrCode) (full : s.mbFull = true) (failed : s.decodeReceived = .error code) : s.BatchWithoutHit 0 (some code)
  | discarded (f : Word) (full : s.mbFull = true) (decoded : s.decodeReceived = .frame f) (cached : s.cacheValid = true) :
      s.BatchWithoutHit f none

theorem drain_of_batchWithoutHit (batch : s.BatchWithoutHit f e) :
    drain s = (resumeIfArmed { s with mbFull := false, rxFrame := f }, e) := by
  cases batch with
  | failed code full failed => simp [drain, full, failed]
  | discarded f full decoded cached => simp [drain, full, decoded, cacheHit, cached]

/-- Where the drain ends in Armed, it asserts RESUME (R150). -/
theorem drain_armed_without_hit (armed : s.session = .armed) (batch : s.BatchWithoutHit f e) :
    drain s = ({ s with mbFull := false, rxFrame := f }.emitResume, e) :=
  (drain_of_batchWithoutHit batch).trans (congrArg (·, e) (if_pos armed))

theorem drain_without_hit (notArmed : s.session ≠ .armed) (batch : s.BatchWithoutHit f e) :
    drain s = ({ s with mbFull := false, rxFrame := f }, e) :=
  (drain_of_batchWithoutHit batch).trans (congrArg (·, e) (if_neg notArmed))

/-- The session state does not matter to a decode. -/
theorem State.BatchWithoutHit.move (batch : s.BatchWithoutHit f e) (x : Session) :
    { s with session := x }.emitResume.BatchWithoutHit f e := by
  cases batch with
  | failed code full failed => exact .failed code full failed
  | discarded f full decoded cached => exact .discarded f full decoded cached

/-- With an empty cache the hit is cached. Armed moves to HitPending, so that the drain asserts no RESUME (R147). -/
theorem drain_armed_of_first_hit (armed : s.session = .armed) (full : s.mbFull = true) (uncached : s.cacheValid = false)
    (decoded : s.decodeReceived = .frame f) :
    drain s =
      ({ s with
        mbFull := false, rxFrame := f, cache := decodedFrame f, cacheValid := true, session := .hitPending }, none) := by
  simp [drain, full, decoded, cacheHit, uncached, armed, resumeIfArmed]

theorem drain_of_first_hit (notArmed : s.session ≠ .armed) (full : s.mbFull = true) (uncached : s.cacheValid = false)
    (decoded : s.decodeReceived = .frame f) :
    drain s = ({ s with mbFull := false, rxFrame := f, cache := decodedFrame f, cacheValid := true }, none) := by
  simp [drain, full, decoded, cacheHit, uncached, notArmed, resumeIfArmed]

theorem advance_of_not_cooling (notCooling : s.session ≠ .coolingDown) : advance s = drain s :=
  congrArg drain (expire_of_not_cooling s.now s notCooling)

theorem advance_inside (inside : s.now - s.lastHit < s.cooldown) : advance s = drain s :=
  congrArg drain (expire_inside s.now s inside)

theorem advance_expired_cached (cooling : s.session = .coolingDown) (expired : s.cooldown ≤ s.now - s.lastHit)
    (cached : s.cacheValid = true) : advance s = drain { s with session := .hitPending }.emitResume := by
  rw [advance, expire_over s.now s cooling expired, State.leaveCooldown, if_pos cached]

theorem advance_expired_uncached (cooling : s.session = .coolingDown) (expired : s.cooldown ≤ s.now - s.lastHit)
    (uncached : s.cacheValid = false) : advance s = drain { s with session := .armed }.emitResume := by
  rw [advance, expire_over s.now s cooling expired, State.leaveCooldown, if_neg (by simp [uncached])]

end drain

/-! ### TICK and POLL, by what expire and drain leave (R152, R153) -/

section tickAndPoll

variable {s v : State} {e : Option ErrCode}

theorem exec_tick_of_advance (active : s.session ≠ .idle) (advanced : advance s = (v, e)) :
    exec .tick s = .next { v with err := e.getD .ok } := by
  simp [exec, execTick, active, advanced, finish, State.setErr]

theorem exec_poll_of_pending (active : s.session ≠ .idle) (advanced : advance s = (v, e)) (pending : v.session = .hitPending) :
    exec .poll s = .next
      { v with
        hit := v.cache, cacheValid := false, lastHit := s.now, lhValid := true, session := .coolingDown, err := .ok } := by
  simp [exec, execPoll, active, advanced, deliver, pending, pollCode, finish, State.setErr]

theorem exec_poll_of_not_pending (active : s.session ≠ .idle) (advanced : advance s = (v, e))
    (notPending : v.session ≠ .hitPending) :
    exec .poll s = .next
      { v with hit := 0, err := e.getD (if v.session = .coolingDown then .sessionBusy else .noFrame) } := by
  cases e <;> simp [exec, execPoll, active, advanced, deliver, notPending, pollCode, finish, State.setErr]

end tickAndPoll

end Sys2Proof.Machine

namespace Sys2Proof.Machine

/-! ### TICK and POLL of each kind of batch -/

/-- Settles O33: an empty mailbox leaves expire alone to act. -/
theorem tickExpiresTheCooldown : Obligations.TickExpiresTheCooldown := by
  intro s active empty
  obtain ⟨cooling, expired, left⟩ | ⟨notExpired, stays⟩ := expire_cases s.now s
  · rw [exec_tick_of_advance active ((congrArg drain left).trans (drain_of_empty empty)), if_pos ⟨cooling, expired⟩]
    rfl
  · rw [exec_tick_of_advance active ((congrArg drain stays).trans (drain_of_empty empty)), if_neg notExpired]
    rfl

/-- Settles O43: the modular difference is 2^32 - d, which reaches COOLDOWN. -/
theorem earlierNowExpiresAtOnce : Obligations.EarlierNowExpiresAtOnce := by
  intro s d cooling empty positive bound earlier
  have expired : s.cooldown ≤ s.now - s.lastHit := by
    rw [earlier, BitVec.le_def, BitVec.toNat_sub, BitVec.toNat_sub, BitVec.toNat_ofNat]
    have := s.lastHit.isLt
    omega
  rw [tickExpiresTheCooldown s (by simp [cooling]) empty, if_pos ⟨cooling, expired⟩]

/-- Settles O36: with nothing to drain, the session state after expire decides whether POLL delivers. -/
theorem pollDeliversTheCachedHit : Obligations.PollDeliversTheCachedHit := by
  intro s empty
  have drained := drain_of_empty empty
  refine ⟨fun pending => ?pending, fun cooling inside => ?inside, fun armed => ?armed, fun cooling expired => ?expired⟩
  case pending =>
    exact exec_poll_of_pending (by simp [pending]) ((advance_of_not_cooling (by simp [pending])).trans drained) pending
  case inside =>
    rw [exec_poll_of_not_pending (by simp [cooling]) ((advance_inside inside).trans drained) (by simp [cooling])]
    simp [cooling]
  case armed =>
    rw [exec_poll_of_not_pending (by simp [armed]) ((advance_of_not_cooling (by simp [armed])).trans drained)
      (by simp [armed])]
    simp [armed]
  case expired =>
    have active : s.session ≠ .idle := by simp [cooling]
    refine ⟨fun cached => ?_, fun uncached => ?_⟩
    · exact exec_poll_of_pending active ((advance_expired_cached cooling expired cached).trans (drain_of_empty empty)) rfl
    · exact exec_poll_of_not_pending active ((advance_expired_uncached cooling expired uncached).trans (drain_of_empty empty))
        nofun

/-- Settles O34: the drain caches the hit and ends in HitPending, where a POLL delivers it. -/
theorem decodedBatchIsCachedOrDelivered : Obligations.DecodedBatchIsCachedOrDelivered := by
  intro s f armed full uncached decoded
  have active : s.session ≠ .idle := by simp [armed]
  have advanced := (advance_of_not_cooling (by simp [armed])).trans (drain_armed_of_first_hit armed full uncached decoded)
  rw [exec_tick_of_advance active advanced, exec_poll_of_pending active advanced rfl]
  simp [uncached]

/-- Settles O37: inside the cooldown the hit is cached and stays; after it the drain finds Armed. -/
theorem hitInsideCooldownIsCached : Obligations.HitInsideCooldownIsCached := by
  intro s f cooling full uncached decoded
  have active : s.session ≠ .idle := by simp [cooling]
  refine ⟨fun inside => ?inside, fun expired => ?expired⟩
  case inside =>
    have advanced := (advance_inside inside).trans (drain_of_first_hit (by simp [cooling]) full uncached decoded)
    rw [exec_tick_of_advance active advanced, exec_poll_of_not_pending active advanced (by simp [cooling])]
    simp [cooling]
  case expired =>
    have advanced :=
      (advance_expired_uncached cooling expired uncached).trans (drain_armed_of_first_hit rfl full uncached decoded)
    rw [exec_tick_of_advance active advanced, exec_poll_of_pending active advanced rfl]
    simp [cooling, uncached, State.emitResume]

section batchWithoutHit

variable {s : State} {f : Word} {e : Option ErrCode}

/-- Listening goes on, with RESUME (R150). -/
theorem tick_poll_without_hit_armed (armed : s.session = .armed) (batch : s.BatchWithoutHit f e) :
    exec .tick s = .next
      { s with mbFull := false, rxFrame := f, err := e.getD .ok, outputs := { s.outputs with resume := true } } ∧
    exec .poll s = .next
      { s with
        mbFull := false, rxFrame := f, hit := 0, err := e.getD .noFrame, outputs := { s.outputs with resume := true } } := by
  have active : s.session ≠ .idle := by simp [armed]
  have advanced := (advance_of_not_cooling (by simp [armed])).trans (drain_armed_without_hit armed batch)
  rw [exec_tick_of_advance active advanced, exec_poll_of_not_pending active advanced (by simp [armed])]
  simp [armed, State.emitResume]

theorem tick_poll_without_hit_pending (pending : s.session = .hitPending) (batch : s.BatchWithoutHit f e) :
    exec .tick s = .next { s with mbFull := false, rxFrame := f, err := e.getD .ok } ∧
    exec .poll s = .next
      { s with
        mbFull := false, rxFrame := f, hit := s.cache, cacheValid := false, lastHit := s.now, lhValid := true
        session := .coolingDown, err := .ok } := by
  have active : s.session ≠ .idle := by simp [pending]
  have advanced := (advance_of_not_cooling (by simp [pending])).trans (drain_without_hit (by simp [pending]) batch)
  exact ⟨exec_tick_of_advance active advanced, exec_poll_of_pending active advanced pending⟩

theorem tick_poll_without_hit_inside (cooling : s.session = .coolingDown) (inside : s.now - s.lastHit < s.cooldown)
    (batch : s.BatchWithoutHit f e) :
    exec .tick s = .next { s with mbFull := false, rxFrame := f, err := e.getD .ok } ∧
    exec .poll s = .next { s with mbFull := false, rxFrame := f, hit := 0, err := e.getD .sessionBusy } := by
  have active : s.session ≠ .idle := by simp [cooling]
  have advanced := (advance_inside inside).trans (drain_without_hit (by simp [cooling]) batch)
  rw [exec_tick_of_advance active advanced, exec_poll_of_not_pending active advanced (by simp [cooling])]
  simp [cooling]

/-- The hit that the cooldown kept is delivered, which starts the next cooldown (R149). -/
theorem tick_poll_without_hit_expired_cached (cooling : s.session = .coolingDown)
    (expired : s.cooldown ≤ s.now - s.lastHit) (cached : s.cacheValid = true) (batch : s.BatchWithoutHit f e) :
    exec .tick s = .next
      { s with
        mbFull := false, rxFrame := f, session := .hitPending, err := e.getD .ok
        outputs := { s.outputs with resume := true } } ∧
    exec .poll s = .next
      { s with
        mbFull := false, rxFrame := f, hit := s.cache, cacheValid := false, lastHit := s.now, lhValid := true, err := .ok
        outputs := { s.outputs with resume := true } } := by
  have active : s.session ≠ .idle := by simp [cooling]
  have advanced :=
    (advance_expired_cached cooling expired cached).trans (drain_without_hit nofun (batch.move .hitPending))
  rw [exec_tick_of_advance active advanced, exec_poll_of_pending active advanced rfl]
  simp [cooling, State.emitResume]

theorem tick_poll_without_hit_expired_uncached (cooling : s.session = .coolingDown)
    (expired : s.cooldown ≤ s.now - s.lastHit) (uncached : s.cacheValid = false) (batch : s.BatchWithoutHit f e) :
    exec .tick s = .next
      { s with
        mbFull := false, rxFrame := f, session := .armed, err := e.getD .ok
        outputs := { s.outputs with resume := true } } ∧
    exec .poll s = .next
      { s with
        mbFull := false, rxFrame := f, session := .armed, hit := 0, err := e.getD .noFrame
        outputs := { s.outputs with resume := true } } := by
  have active : s.session ≠ .idle := by simp [cooling]
  have advanced :=
    (advance_expired_uncached cooling expired uncached).trans (drain_armed_without_hit rfl (batch.move .armed))
  exact ⟨exec_tick_of_advance active advanced, exec_poll_of_not_pending active advanced nofun⟩

end batchWithoutHit

/-- Settles O35: a batch that does not decode gives no hit. -/
theorem failedBatchIsDiscarded : Obligations.FailedBatchIsDiscarded := by
  intro s e full failed
  have batch : s.BatchWithoutHit 0 (some e) := .failed e full failed
  refine ⟨fun armed => tick_poll_without_hit_armed armed batch, fun pending => tick_poll_without_hit_pending pending batch,
    fun cooling inside => tick_poll_without_hit_inside cooling inside batch, fun cooling expired => ?_⟩
  obtain cached | uncached := Bool.eq_false_or_eq_true s.cacheValid
  · obtain ⟨tick, poll⟩ := tick_poll_without_hit_expired_cached cooling expired cached batch
    simp [tick, poll, cached]
  · obtain ⟨tick, poll⟩ := tick_poll_without_hit_expired_uncached cooling expired uncached batch
    simp [tick, poll, uncached]

/-- Settles O38: a batch that finds the cache full gives no hit. -/
theorem firstCachedHitIsKept : Obligations.FirstCachedHitIsKept := by
  intro s f cached full decoded
  have batch : s.BatchWithoutHit f none := .discarded f full decoded cached
  exact ⟨fun pending => tick_poll_without_hit_pending pending batch,
    fun cooling inside => tick_poll_without_hit_inside cooling inside batch,
    fun cooling expired => tick_poll_without_hit_expired_cached cooling expired cached batch,
    fun armed => tick_poll_without_hit_armed armed batch⟩

end Sys2Proof.Machine

namespace Sys2Proof.Machine

/-! ## The moves of the session (R159) -/

theorem drain_session_cases (s : State) :
    (drain s).1.session = s.session ∨ (s.session = .armed ∧ (drain s).1.session = .hitPending) := by
  obtain ⟨-, drained⟩ | ⟨-, f, -, drained⟩ | ⟨-, e, -, drained⟩ := drain_cases s
  · exact .inl (by rw [drained])
  · obtain ⟨o, resumed⟩ := resumeIfArmed_frame (cacheHit f { s with mbFull := false })
    rw [drained, resumed]
    obtain ⟨-, hit⟩ | ⟨-, hit⟩ := cacheHit_cases f { s with mbFull := false } <;> rw [hit]
    · exact .inl rfl
    · by_cases armed : s.session = .armed <;> simp [armed]
  · obtain ⟨o, resumed⟩ := resumeIfArmed_frame { s with mbFull := false, rxFrame := 0 }
    exact .inl (by rw [drained, resumed])

theorem leaveCooldown_session_cases (s : State) :
    s.leaveCooldown.session = .armed ∨ s.leaveCooldown.session = .hitPending := by
  cases cached : s.cacheValid <;> simp [State.leaveCooldown, cached]

/-- expire and drain move the session from Armed to HitPending, and out of the cooldown (R146, R147). -/
theorem advance_session_cases (s : State) :
    (advance s).1.session = s.session ∨ (s.session = .armed ∧ (advance s).1.session = .hitPending) ∨
      (s.session = .coolingDown ∧ ((advance s).1.session = .armed ∨ (advance s).1.session = .hitPending)) := by
  unfold advance
  obtain ⟨cooling, -, expired⟩ | ⟨-, expired⟩ := expire_cases s.now s <;> rw [expired]
  · obtain kept | ⟨-, pending⟩ := drain_session_cases s.leaveCooldown
    · exact .inr (.inr ⟨cooling, kept ▸ leaveCooldown_session_cases s⟩)
    · exact .inr (.inr ⟨cooling, .inr pending⟩)
  · obtain kept | moved := drain_session_cases s
    · exact .inl kept
    · exact .inr (.inl moved)

theorem storeReg_session (s : State) (w : Word) (r : Reg) : (storeReg s w r).session = s.session := by
  cases r <;> rfl

theorem storeEffect_session {a : BitVec 10} {w : Word} {s t : State} (effect : StoreEffect a w s t) :
    t.session = s.session := by
  cases effect with
  | ignored | buffered | locked => rfl
  | stored r => exact storeReg_session s w r

theorem rxBatch_session (l : List Word) (s : State) : (rxBatch l s).session = s.session := by
  obtain ⟨-, h⟩ | ⟨-, -, h⟩ := rxBatch_cases l s <;> rw [h]; rfl

theorem txDone_session (success : Bool) (s : State) : (txDone success s).session = s.session := by
  obtain ⟨-, h⟩ | ⟨-, h⟩ := txDone_cases success s <;> rw [h]

/-- What a POLL does to the session after expire and drain: a delivery starts the cooldown (R149). -/
theorem deliver_session_cases (now : Word) (s : State) :
    (s.session = .hitPending ∧ (deliver now s).1.session = .coolingDown) ∨
      (s.session ≠ .hitPending ∧ (deliver now s).1.session = s.session) := by
  obtain ⟨pending, h⟩ | ⟨notPending, h⟩ := deliver_cases now s <;> rw [h]
  · exact .inl ⟨pending, rfl⟩
  · exact .inr ⟨notPending, rfl⟩

/-- The rows of the transition table that belong to commands (R159). -/
theorem commandEffect_session {i : Instr} {s t : State} (effect : CommandEffect s i t) (moved : s.session ≠ t.session) :
    (i = .arm ∧ s.session = .idle ∧ t.session = .armed) ∨
    (i = .tick ∧ s.session = .armed ∧ t.session = .hitPending) ∨
    (i = .poll ∧ (s.session = .armed ∨ s.session = .hitPending) ∧ t.session = .coolingDown) ∨
    (i = .tick ∧ s.session = .coolingDown ∧ (t.session = .armed ∨ t.session = .hitPending)) ∨
    (i = .poll ∧ s.session = .coolingDown ∧ t.session = .armed) ∨
    (i = .cancel ∧ s.session = .coolingDown ∧ (t.session = .armed ∨ t.session = .hitPending)) ∨
    (i = .teardown ∧ t.session = .idle) := by
  cases effect with
  | arm e idle => simp [idle]
  | cancel e cooling => simp [cooling]
  | teardown e => simp
  | tick e =>
    rw [State.setErr_session] at moved ⊢
    obtain kept | ⟨armed, pending⟩ | ⟨cooling, left⟩ := advance_session_cases s
    · exact absurd kept.symm moved
    · simp [armed, pending]
    · simp [cooling, left]
  | poll e =>
    rw [State.setErr_session] at moved ⊢
    obtain ⟨pending, cooling⟩ | ⟨notPending, kept⟩ := deliver_session_cases s.now (advance s).1
    · rw [cooling] at moved ⊢
      obtain same | ⟨armed, -⟩ | ⟨wasCooling, -⟩ := advance_session_cases s
      · simp [← same, pending]
      · simp [armed]
      · exact absurd wasCooling moved
    · rw [kept] at moved ⊢
      obtain same | ⟨-, pending⟩ | ⟨cooling, left⟩ := advance_session_cases s
      · exact absurd same.symm moved
      · exact absurd pending notPending
      · simp [cooling, left.resolve_right notPending]
  | _ => exact absurd rfl moved

/-- Settles O44: of the other steps only reset moves the session. -/
theorem sessionMovesOnlyAlongTheTable : Obligations.SessionMovesOnlyAlongTheTable := by
  intro s t hs moved
  cases step_effect hs with
  | none | read | illegal => exact absurd rfl moved
  | store a w rest u r _ _ effect => exact absurd (storeEffect_session effect).symm moved
  | command w i rest _ _ legal effect =>
    rw [legal]
    simpa only [Option.some.injEq] using .inr (commandEffect_session (s := s.commandStart rest) effect moved)
  | batch l rest => exact absurd (rxBatch_session l (s.beginStep rest)).symm moved
  | done success rest => exact absurd (txDone_session success (s.beginStep rest)).symm moved
  | reset rest input => exact .inl (State.nextInput_of_cons input)

end Sys2Proof.Machine

namespace Sys2Proof.Machine

/-! ## What POLL reports (R153) -/

theorem drain_error_ne_ok (s : State) : (drain s).2 ≠ some .ok := by
  obtain ⟨-, drained⟩ | ⟨-, f, -, drained⟩ | ⟨-, e, failed, drained⟩ := drain_cases s <;> rw [drained]
  · nofun
  · nofun
  · obtain rfl | rfl | rfl := decodeBatch_error _ _ _ failed <;> nofun

/-- Outside Idle, POLL delivers the cached hit and reports OK, or it reports an error and leaves what drain left, HIT apart. -/
theorem exec_poll_cases {s t : State} (active : s.session ≠ .idle) (run : exec .poll s = .next t) :
    ((advance s).1.session = .hitPending ∧ t = { (advance s).1 with
        hit := (advance s).1.cache, cacheValid := false, lastHit := s.now, lhValid := true, session := .coolingDown,
        err := .ok }) ∨
    ((advance s).1.session ≠ .hitPending ∧ ∃ e, e ≠ .ok ∧ t = { (advance s).1 with hit := 0, err := e }) := by
  have notOk : (advance s).2 ≠ some .ok := drain_error_ne_ok _
  obtain ⟨v, e, advanced⟩ : ∃ v e, advance s = (v, e) := ⟨_, _, rfl⟩
  rw [advanced] at notOk ⊢
  by_cases pending : v.session = .hitPending
  · exact .inl ⟨pending, Host.Outcome.next.inj (run.symm.trans (exec_poll_of_pending active advanced pending))⟩
  · refine .inr ⟨pending, _, ?_, Host.Outcome.next.inj (run.symm.trans (exec_poll_of_not_pending active advanced pending))⟩
    cases e with
    | none => by_cases cooling : v.session = .coolingDown <;> simp [cooling]
    | some code => simpa using notOk

/-! ## The debounce (R158) -/

section inside

variable {s t : State}

/-- Inside the cooldown a drain may cache a hit, and the cooldown goes on. -/
theorem advance_session_inside (cooling : s.session = .coolingDown) (inside : s.now - s.lastHit < s.cooldown) :
    (advance s).1.session = .coolingDown := by
  rw [advance_inside inside]
  obtain kept | ⟨armed, -⟩ := drain_session_cases s
  · exact kept.trans cooling
  · exact nomatch armed.symm.trans cooling

theorem advance_lastHit (s : State) : (advance s).1.lastHit = s.lastHit := by
  obtain ⟨_, _, _, _, _, -, h⟩ := advance_frame s
  rw [h]

theorem tick_inside (cooling : s.session = .coolingDown) (inside : s.now - s.lastHit < s.cooldown)
    (run : exec .tick s = .next t) : t.session = .coolingDown := by
  obtain rfl := Host.Outcome.next.inj ((exec_tick_of_advance (by simp [cooling]) rfl).symm.trans run)
  exact advance_session_inside cooling inside

theorem poll_inside (cooling : s.session = .coolingDown) (inside : s.now - s.lastHit < s.cooldown)
    (run : exec .poll s = .next t) : t.session = .coolingDown ∧ t.lastHit = s.lastHit ∧ t.err ≠ .ok := by
  have stays := advance_session_inside cooling inside
  obtain ⟨pending, -⟩ | ⟨-, e, notOk, rfl⟩ := exec_poll_cases (by simp [cooling]) run
  · exact nomatch pending.symm.trans stays
  · exact ⟨stays, advance_lastHit s, notOk⟩

end inside

section insideCooldown

variable {t0 : Word} {s u : State}

theorem deliversHit_of_not_poll (notPoll : s.nextCommand ≠ some .poll) : deliversHit s u = false := by
  simp [deliversHit, notPoll]

theorem deliversHit_of_error (notOk : u.err ≠ .ok) : deliversHit s u = false := by
  simp [deliversHit, notOk]

theorem step_keeps_cooldown_register (active : s.session ≠ .idle) (notReset : s.nextInput ≠ some .reset)
    (hs : step s = .next u) : u.cooldown = s.cooldown := by
  have same : u.configuration = s.configuration := by
    by_contra changed
    obtain resets | ⟨idle, -⟩ := configurationChangesOnlyInIdle s u hs changed
    · exact notReset resets
    · exact active idle
  simp only [State.configuration, Prod.mk.injEq] at same
  simp only [same]

/-- One step inside the cooldown that began at t0. A TICK and a POLL find NOW inside it, and no other step that is allowed here
moves the session or writes LAST_HIT (R51, R159). -/
theorem step_inside_cooldown (cooling : s.session = .coolingDown) (began : s.lastHit = t0) (inside : s.InsideCooldown t0)
    (hs : step s = .next u) :
    u.session = .coolingDown ∧ u.lastHit = t0 ∧ u.cooldown = s.cooldown ∧ deliversHit s u = false := by
  obtain ⟨notCancel, notTeardown, notReset, clock⟩ := inside
  subst began
  have register := step_keeps_cooldown_register (by simp [cooling]) notReset hs
  by_cases polls : s.nextCommand = some .poll
  · obtain ⟨rest, run⟩ := step_of_nextCommand polls
    obtain ⟨session, lastHit, notOk⟩ := poll_inside (s := s.commandStart rest) cooling (clock (.inr polls)) (run.symm.trans hs)
    exact ⟨session, lastHit, register, deliversHit_of_error notOk⟩
  have lastHit : u.lastHit = s.lastHit := by
    obtain ⟨-, -, -, -, -, -, -, -, -, -, writers, -⟩ := registersChangeOnlyByTheirWriters s u hs notReset
    by_contra changed
    exact (writers changed).elim polls notTeardown
  refine ⟨?_, lastHit, register, deliversHit_of_not_poll polls⟩
  by_cases ticks : s.nextCommand = some .tick
  · obtain ⟨rest, run⟩ := step_of_nextCommand ticks
    exact tick_inside (s := s.commandStart rest) cooling (clock (.inl ticks)) (run.symm.trans hs)
  · by_contra moved
    have := sessionMovesOnlyAlongTheTable s u hs (fun same => moved (same.symm.trans cooling))
    simp [cooling, notReset, polls, ticks, notCancel, notTeardown] at this

/-- The cooldown goes on through every run of steps inside it. -/
theorem run_inside_cooldown {t : State} (cooling : s.session = .coolingDown) (began : s.lastHit = t0)
    (run : Run (State.InsideCooldown t0) s t) :
    t.session = .coolingDown ∧ t.lastHit = t0 ∧ t.cooldown = s.cooldown := by
  induction run with
  | start => exact ⟨cooling, began, rfl⟩
  | snoc _ inside hs ih =>
    obtain ⟨session, lastHit, register⟩ := ih
    obtain ⟨session', lastHit', register', -⟩ := step_inside_cooldown session lastHit inside hs
    exact ⟨session', lastHit', register'.trans register⟩

end insideCooldown

/-- Settles O46: the run so far keeps the cooldown, and the next step is one more inside it. -/
theorem noHitIsDeliveredInsideTheCooldown : Obligations.NoHitIsDeliveredInsideTheCooldown := by
  intro t0 s t u cooling began run inside hs
  obtain ⟨session, lastHit, register⟩ := run_inside_cooldown cooling began run
  obtain ⟨session', lastHit', register', noHit⟩ := step_inside_cooldown session lastHit inside hs
  exact ⟨session', lastHit', register'.trans register, noHit⟩

/-! ## Hits and batches (R157) -/

/-- What can still be delivered without a new batch: the batch in the mailbox and the cached hit. -/
def State.pendingHits (s : State) : Nat := s.mbFull.toNat + s.cacheValid.toNat

/-- A drain makes at most one hit of the batch it takes out. -/
theorem drain_pendingHits (s : State) : (drain s).1.pendingHits ≤ s.pendingHits := by
  obtain ⟨-, drained⟩ | ⟨full, f, -, drained⟩ | ⟨full, e, -, drained⟩ := drain_cases s <;> rw [drained]
  · obtain ⟨x, k, hit⟩ := cacheHit_frame f { s with mbFull := false }
    obtain ⟨o, resumed⟩ := resumeIfArmed_frame (cacheHit f { s with mbFull := false })
    rw [resumed, hit]
    simp [State.pendingHits, full]
  · obtain ⟨o, resumed⟩ := resumeIfArmed_frame { s with mbFull := false, rxFrame := 0 }
    rw [resumed]
    simp [State.pendingHits]

theorem advance_pendingHits (s : State) : (advance s).1.pendingHits ≤ s.pendingHits := by
  obtain ⟨x, o, expired⟩ := expire_frame s.now s
  exact (drain_pendingHits _).trans (by rw [expired]; rfl)

/-- A delivery takes the cached hit, which is there in HitPending. -/
theorem poll_pendingHits {s t : State} (h : s.Inv) (run : exec .poll s = .next t) :
    (decide (t.err = .ok)).toNat + t.pendingHits ≤ s.pendingHits := by
  by_cases idle : s.session = .idle
  · obtain ⟨-, refused⟩ := (refusedCommandsOnlyReportTheError s).2 idle
    cases refused.symm.trans run
    simp [State.pendingHits]
  have bound := advance_pendingHits s
  obtain ⟨pending, rfl⟩ | ⟨-, e, notOk, rfl⟩ := exec_poll_cases idle run
  · have cached := (advance_inv h idle).pendingIsCached pending
    simp only [State.pendingHits, cached] at bound ⊢
    simpa [Nat.add_comm] using bound
  · simpa [State.pendingHits, notOk] using bound

theorem tick_pendingHits {s t : State} (run : exec .tick s = .next t) : t.pendingHits ≤ s.pendingHits := by
  by_cases idle : s.session = .idle
  · obtain ⟨refused, -⟩ := (refusedCommandsOnlyReportTheError s).2 idle
    cases refused.symm.trans run
    exact le_rfl
  · cases (exec_tick_of_advance idle rfl).symm.trans run
    exact advance_pendingHits s

theorem step_of_reset {s : State} (resets : s.nextInput = some .reset) :
    s.nextCommand = none ∧ ∃ rest, step s = .next (resetEvent (s.beginStep rest)) := by
  obtain ⟨rest, input⟩ := List.head?_eq_some_iff.mp resets
  exact ⟨by simp [State.nextCommand, input], rest, step_of_cons input⟩

/-- Only an accepted batch adds to what can be delivered, and a delivery takes from it. -/
theorem step_pendingHits {s t : State} (h : s.Inv) (hs : step s = .next t) :
    (deliversHit s t).toNat + t.pendingHits ≤ s.acceptsBatch.toNat + s.pendingHits := by
  by_cases resets : s.nextInput = some .reset
  · obtain ⟨noCommand, rest, run⟩ := step_of_reset resets
    cases run.symm.trans hs
    rw [deliversHit_of_not_poll (by simp [noCommand])]
    simp [State.pendingHits, resetEvent, State.powerUp]
  by_cases polls : s.nextCommand = some .poll
  · obtain ⟨rest, run⟩ := step_of_nextCommand polls
    have bound := poll_pendingHits (commandStart_inv h rest) (run.symm.trans hs)
    have delivers : deliversHit s t = decide (t.err = .ok) := by simp [deliversHit, polls]
    exact delivers ▸ bound.trans (Nat.le_add_left _ _)
  rw [deliversHit_of_not_poll polls, Bool.toNat_false, Nat.zero_add]
  by_cases ticks : s.nextCommand = some .tick
  · obtain ⟨rest, run⟩ := step_of_nextCommand ticks
    exact (tick_pendingHits (run.symm.trans hs)).trans (Nat.le_add_left s.pendingHits _)
  · obtain ⟨-, -, -, -, -, -, -, -, -, -, -, -, caches, -, fills, -⟩ := registersChangeOnlyByTheirWriters s t hs resets
    have cache : t.cacheValid.toNat ≤ s.cacheValid.toNat := by
      refine Bool.toNat_le_toNat (Bool.le_iff_imp.mpr fun now => ?_)
      by_contra was
      exact (caches (Bool.eq_false_of_not_eq_true was) now).elim ticks polls
    have mailbox : t.mbFull.toNat ≤ s.acceptsBatch.toNat + s.mbFull.toNat := by
      cases was : s.mbFull with
      | true => exact (Bool.toNat_le _).trans (Nat.le_add_left _ _)
      | false => exact Bool.toNat_le_toNat (Bool.le_iff_imp.mpr (fills was))
    simp only [State.pendingHits]
    omega

theorem countedRun_inv {s t : State} {accepted delivered : Nat} (h : s.Inv) (run : CountedRun s accepted delivered t) :
    t.Inv := by
  induction run with
  | start => exact h
  | snoc _ hs ih => exact step_inv ih hs

/-- Settles O47, by induction on the run. -/
theorem hitsNeverExceedAcceptedBatches : Obligations.HitsNeverExceedAcceptedBatches := by
  intro s t accepted delivered h run
  suffices bound : delivered + t.pendingHits ≤ accepted + s.pendingHits by
    simpa only [State.pendingHits, Nat.add_assoc] using bound
  induction run with
  | start => exact le_rfl
  | snoc run hs ih =>
    have stepBound := step_pendingHits (countedRun_inv h run) hs
    omega

end Sys2Proof.Machine

namespace Sys2Proof.Machine

/-! ## RESUME (R150) -/

/-- Where Armed has no cached hit (R67 item 3), a drain asserts RESUME for a batch that fails to decode while listening. -/
theorem drain_resume {s : State} (uncached : s.session = .armed → s.cacheValid = false) :
    (drain s).1.outputs.resume = true ↔
      s.outputs.resume = true ∨ (s.session = .armed ∧ s.mbFull = true ∧ ∃ e, s.decodeReceived = .error e) := by
  cases full : s.mbFull with
  | false => simp [drain_of_empty full]
  | true =>
    by_cases armed : s.session = .armed
    · cases decoded : s.decodeReceived with
      | frame f => simp [drain_armed_of_first_hit armed full (uncached armed) decoded]
      | error e => simp [drain_armed_without_hit armed (.failed e full decoded), State.emitResume, armed]
    · cases decoded : s.decodeReceived with
      | frame f =>
        cases cached : s.cacheValid with
        | true => simp [drain_without_hit armed (.discarded f full decoded cached)]
        | false => simp [drain_of_first_hit armed full cached decoded]
      | error e => simp [drain_without_hit armed (.failed e full decoded), armed]

/-- TICK and POLL assert RESUME when the cooldown expires, and when the drain ends in Armed (R146, R147). -/
theorem advance_resume {s : State} (h : s.Inv) (quiet : s.outputs.resume = false) :
    (advance s).1.outputs.resume = true ↔
      (s.session = .coolingDown ∧ s.cooldown ≤ s.now - s.lastHit) ∨
      (s.session = .armed ∧ s.mbFull = true ∧ ∃ e, s.decodeReceived = .error e) := by
  have expiredInv := expire_inv h s.now
  rw [advance, drain_resume expiredInv.armedIsUncached]
  obtain ⟨cooling, expired, left⟩ | ⟨notExpired, stays⟩ := expire_cases s.now s
  · simp [left, State.leaveCooldown, State.emitResume, cooling, expired]
  · simp [stays, quiet, notExpired]

theorem storeReg_outputs (s : State) (w : Word) (r : Reg) : (storeReg s w r).outputs = s.outputs := by
  cases r <;> rfl

theorem storeEffect_outputs {a : BitVec 10} {w : Word} {s t : State} (effect : StoreEffect a w s t) :
    t.outputs = s.outputs := by
  cases effect with
  | ignored | buffered | locked => rfl
  | stored r => exact storeReg_outputs s w r

theorem rxBatch_outputs (l : List Word) (s : State) : (rxBatch l s).outputs = s.outputs := by
  obtain ⟨-, h⟩ | ⟨-, -, h⟩ := rxBatch_cases l s <;> rw [h]; rfl

theorem txDone_outputs (success : Bool) (s : State) : (txDone success s).outputs = s.outputs := by
  obtain ⟨-, h⟩ | ⟨-, h⟩ := txDone_cases success s <;> rw [h]

/-- The commands that can assert RESUME (R150). -/
def canResume (i : Instr) : Prop := i = .arm ∨ i = .cancel ∨ i = .tick ∨ i = .poll

theorem commandEffect_resume {i : Instr} {s t : State} (effect : CommandEffect s i t) (other : ¬canResume i) :
    t.outputs.resume = s.outputs.resume := by
  cases effect with
  | arm | cancel | tick | poll => exact absurd (by simp [canResume]) other
  | _ => rfl

/-- A step asserts RESUME only by one of these commands: it begins with no output asserted (R66). -/
theorem step_resume_of_other {s t : State} (hs : step s = .next t)
    (other : ∀ i, s.nextCommand = some i → ¬canResume i) : t.outputs.resume = false := by
  cases step_effect hs with
  | none | read | illegal | reset => rfl
  | store a w rest u r _ _ effect => exact congrArg Outputs.resume (storeEffect_outputs effect)
  | command w i rest _ _ legal effect => exact commandEffect_resume effect (other i legal)
  | batch l rest => exact congrArg Outputs.resume (rxBatch_outputs l _)
  | done success rest => exact congrArg Outputs.resume (txDone_outputs success _)

/-! ### The commands that can assert it -/

@[simp] theorem State.commandStart_timingOk (s : State) (rest : List Input) : (s.commandStart rest).timingOk = s.timingOk := rfl
@[simp] theorem State.commandStart_wmOk (s : State) (rest : List Input) : (s.commandStart rest).wmOk = s.wmOk := rfl
@[simp] theorem State.commandStart_decodeReceived (s : State) (rest : List Input) :
    (s.commandStart rest).decodeReceived = s.decodeReceived := rfl

section resume

variable {s t : State}

theorem execArm_resume (quiet : s.outputs.resume = false) (run : exec .arm s = .next t) :
    t.outputs.resume = true ↔ s.session = .idle ∧ s.timingOk = true ∧ s.wmOk = true := by
  obtain rfl := Host.Outcome.next.inj ((armStartsListening.2 s).symm.trans run)
  split_ifs with active invalid
  · simp [quiet, active]
  · simp only [quiet, Bool.false_eq_true, false_iff]
    rintro ⟨-, timing, bands⟩
    simp [timing, bands] at invalid
  · simpa [not_or] using And.intro (not_not.mp active) invalid

theorem execCancel_resume (quiet : s.outputs.resume = false) (run : exec .cancel s = .next t) :
    t.outputs.resume = true ↔ s.session = .coolingDown := by
  obtain rfl := Host.Outcome.next.inj ((cancelLeavesTheCooldown.2 s).symm.trans run)
  by_cases cooling : s.session = .coolingDown <;> simp [cooling, quiet]

/-- What TICK and POLL assert, they assert in expire and drain: a delivery asserts nothing. -/
theorem execTick_execPoll_resume (h : s.Inv) (quiet : s.outputs.resume = false)
    (run : exec .tick s = .next t ∨ exec .poll s = .next t) :
    t.outputs.resume = true ↔
      (s.session = .coolingDown ∧ s.cooldown ≤ s.now - s.lastHit) ∨
      (s.session = .armed ∧ s.mbFull = true ∧ ∃ e, s.decodeReceived = .error e) := by
  by_cases idle : s.session = .idle
  · obtain ⟨tick, poll⟩ := (refusedCommandsOnlyReportTheError s).2 idle
    obtain rfl : t = { s with err := .badState } := by simpa [tick, poll, eq_comm] using run
    simp [quiet, idle]
  have outputs : t.outputs = (advance s).1.outputs := by
    obtain run | run := run
    · cases (exec_tick_of_advance idle rfl).symm.trans run
      rfl
    · obtain ⟨-, rfl⟩ | ⟨-, e, -, rfl⟩ := exec_poll_cases idle run <;> rfl
  rw [outputs, advance_resume h quiet]

end resume

/-- Settles O45, command by command. -/
theorem resumeIsAssertedExactlyWhenListeningRestarts : Obligations.ResumeIsAssertedExactlyWhenListeningRestarts := by
  intro s t h hs
  by_cases other : ∀ i, s.nextCommand = some i → ¬canResume i
  · have notArm : s.nextCommand ≠ some .arm := fun legal => other _ legal (by simp [canResume])
    have notCancel : s.nextCommand ≠ some .cancel := fun legal => other _ legal (by simp [canResume])
    have notTick : s.nextCommand ≠ some .tick := fun legal => other _ legal (by simp [canResume])
    have notPoll : s.nextCommand ≠ some .poll := fun legal => other _ legal (by simp [canResume])
    simp [step_resume_of_other hs other, notArm, notCancel, notTick, notPoll]
  · simp only [not_forall, not_not] at other
    obtain ⟨i, legal, can⟩ := other
    obtain ⟨rest, run⟩ := step_of_nextCommand legal
    have hi := commandStart_inv h rest
    rw [run] at hs
    obtain rfl | rfl | rfl | rfl := can
    · simpa [legal] using execArm_resume (s := s.commandStart rest) rfl hs
    · simpa [legal] using execCancel_resume (s := s.commandStart rest) rfl hs
    · simpa [legal] using execTick_execPoll_resume hi rfl (.inl hs)
    · simpa [legal] using execTick_execPoll_resume hi rfl (.inr hs)

end Sys2Proof.Machine

namespace Sys2Proof

/-! ## Control (44_control.md) -/

/-- The rows are all there is: a command decodes from a word of its own row only (R102, R103). -/
theorem illegal_of_no_row_matches {w : Word} (unmatched : ∀ r ∈ opcodeTable, w &&& r.mask ≠ r.value) :
    ∃ kind, decode w = .illegal kind := by
  cases answer : decode w with
  | command i => exact absurd (row_match_of_decode answer) (unmatched _ (row_mem_opcodeTable i))
  | illegal kind => exact ⟨kind, rfl⟩

end Sys2Proof

namespace Sys2Proof.Machine

theorem runCommand_of_illegal {w : Word} {kind : IllegalKind} (illegal : decode w = .illegal kind) (s : State) :
    runCommand w s = finish s .illegalCommand := by
  rw [runCommand, illegal, illegalCommand]

/-- Settles O8: no row matches, so the word decodes to no command, and its write only reports. -/
theorem unmatchedWordOnlyReportsIllegalCommand : Obligations.UnmatchedWordOnlyReportsIllegalCommand := by
  intro s rest w input unmatched
  obtain ⟨kind, illegal⟩ := illegal_of_no_row_matches unmatched
  calc step s
    _ = runCommand w (s.commandStart rest) := step_of_write_cmd input
    _ = finish (s.commandStart rest) .illegalCommand := runCommand_of_illegal illegal _
    _ = .next { s.commandStart rest with err := .illegalCommand } := finish_next ..

theorem exec_nop (s : State) : exec .nop s = finish s .ok := rfl

theorem exec_clrerr (s : State) : exec .clrerr s = finish { s with rxDrop := false, wlock := false } .ok := rfl

/-- Settles O10: NOP has one word, and 0xF0 is above every OP of the map. -/
theorem nopOnlyReportsOk : Obligations.NopOnlyReportsOk := by
  obtain ⟨unknown, -⟩ := illegalWordsAreOfTwoKinds 0x000000F0#32
  refine ⟨fun w => decode_eq_command_iff_word, unknown.mpr (by decide), fun s => ?_⟩
  rw [exec_nop, finish_next, State.setErr]

/-- Settles O11. -/
theorem clrerrClearsTheStickyFlags : Obligations.ClrerrClearsTheStickyFlags := by
  refine ⟨fun w => decode_eq_command_iff_word, fun s => ?_⟩
  rw [exec_clrerr, finish_next, State.setErr]

end Sys2Proof.Machine

namespace Sys2Proof.Machine

/-! ## No traps (60_exceptions.md) -/

/-- A word written to CMD ends, whether a row matches it or not (R162, R171); any other write only stores. -/
theorem hostWrite_ends (a : BitVec 10) (w : Word) (s : State) : ∃ t, hostWrite a w s = .next t := by
  unfold hostWrite
  split
  · obtain ⟨t, answer, -⟩ := runCommand_bus w (s.reply .ok)
    exact ⟨t, answer⟩
  · exact ⟨_, rfl⟩

/-- Every agent's step ends: only a host write can run a command, and the others are total functions of the state. -/
theorem runInput_ends (e : Input) (s : State) : ∃ t, runInput e s = .next t := by
  cases e with
  | hostWrite a w => exact hostWrite_ends a w s
  | hostRead | rxBatch | txDone | reset => exact ⟨_, rfl⟩

/-- Settles O9: with no input to come the step answers at once, and else the agent's step ends. -/
theorem everyStepAnswersNext : Obligations.EveryStepAnswersNext := by
  intro s
  obtain ⟨-, idle⟩ | ⟨e, rest, -, runs⟩ := nextStep_cases s
  · exact ⟨_, idle⟩
  · rw [runs]
    exact runInput_ends e _

end Sys2Proof.Machine

namespace Sys2Proof.Machine

/-! ## A batch after reset (70_reset_and_hazards.md) -/

/-- Settles O51: the reset step leaves the power-on state with no output asserted; that state is Idle, so the batch sets RX_DROP
alone (R145, R187). -/
theorem resetDestroysTheSession : Obligations.ResetDestroysTheSession := by
  intro s batch rest input
  have resets : step s = .next (resetEvent (s.beginStep (.rxBatch batch :: rest))) := step_of_cons input
  have flags := powerUp_flagsAreReset s.depth (s.draws + 1)
  have drops := unacceptedBatchIsDropped (resetEvent (s.beginStep (.rxBatch batch :: rest))) rest batch rfl (.inl rfl)
  exact ⟨_, _, resets, flags, rfl, rfl, rfl, drops, rfl⟩

end Sys2Proof.Machine
